-- ==== Sys2Proof/Word.lean ====
section
/-! DEFINITION. Word.lean: the machine's bit-vector widths (00_scope.md R9, R12, R13).
Every value of the machine is an unsigned integer of one of these widths; arithmetic on them wraps. -/

namespace Sys2Proof

/-- A byte: A, X, Y, S, P, every memory cell and every PPU register (R9). -/
abbrev Byte := BitVec 8

/-- A CPU address, and the program counter (R9, R22). -/
abbrev Addr := BitVec 16

/-- The PPU's `v` and `t`, laid out `yyy NN YYYYY XXXXX` (R44). -/
abbrev VramAddr := BitVec 15

/-- An effective PPU address (R9, R105). -/
abbrev PpuAddr := BitVec 14

/-- A palette RAM index, the entry of the scanline buffer (R51). -/
abbrev PalIndex := BitVec 5

/-- A 24-bit colour 0x00RRGGBB, the entry of the frame buffer (R51). -/
abbrev Rgb := BitVec 24

end Sys2Proof
end

