-- ==== Sys2Proof/Machine/Bits.lean ====
section
/-! DEFINITION. Machine/Bits.lean: byte order, sign extension and bit-field helpers (00_scope.md R12, R13; 20_memory.md R80). -/

namespace Sys2Proof.Machine

/-- `{hi, lo}` (R12, R80). -/
def word16 (hi lo : Byte) : Addr := hi ++ lo

/-- `a[15:8]`. -/
def hiByte (a : Addr) : Byte := a.extractLsb' 8 8

/-- `a[7:0]`. -/
def loByte (a : Addr) : Byte := a.extractLsb' 0 8

/-- A zero-page address is zero-extended to 16 bits (R123). -/
def zeroPage (b : Byte) : Addr := word16 0 b

/-- The stack address `0x0100 | S`, that is `{0x01, S}` (R27). -/
def stackAddr (sp : Byte) : Addr := word16 1 sp

/-- `sext8`, reduced modulo 65536 (R13, R161). -/
def sext8 (b : Byte) : Addr := b.signExtend 16

/-- Two addresses lie on different pages when their high bytes differ (00_scope.md glossary, R156, R165). -/
def pageCrossed (a b : Addr) : Bool := hiByte a != hiByte b

/-- `rev8(b)`: the byte with its bit order reversed (48_ppu_rendering.md, notation). -/
def rev8 (b : Byte) : Byte :=
  BitVec.ofBool (b.getLsbD 0) ++ BitVec.ofBool (b.getLsbD 1) ++ BitVec.ofBool (b.getLsbD 2) ++ BitVec.ofBool (b.getLsbD 3) ++
    BitVec.ofBool (b.getLsbD 4) ++ BitVec.ofBool (b.getLsbD 5) ++ BitVec.ofBool (b.getLsbD 6) ++ BitVec.ofBool (b.getLsbD 7)

/-- `b` with bit `i` set to `v`. -/
def putBit (b : Byte) (i : Nat) (v : Bool) : Byte :=
  if v then b ||| (1#8 <<< i) else b &&& ~~~(1#8 <<< i)

end Sys2Proof.Machine
end

