-- ==== Sys2Proof/Syntax.lean ====
section
/-! DEFINITION. Syntax.lean: the instructions, one constructor for each of the 256 rows of spec/opcode_table.json
(30_encoding.md R120 to R135): the rows with an operand first, then those without, each in the table's order. A constructor's argument is the row's operand field: an
immediate, zero-page address or displacement of 8 bits, or an address of 16 bits (R122). The row's mnemonic,
addressing mode and opcode value are `Instr.row` in Decode.lean. -/

namespace Sys2Proof

/-- One constructor per opcode value; the docstring gives the value, mode and rule. -/
inductive Instr where
  /-- 0x01 ORA, (indirect,X) (R204). -/
  | oraIndx (a : Byte)
  /-- 0x03 SLO, (indirect,X) (R288). -/
  | sloIndx (a : Byte)
  /-- 0x04 DOP, zero page (R281). -/
  | dop04 (a : Byte)
  /-- 0x05 ORA, zero page (R204). -/
  | oraZp (a : Byte)
  /-- 0x06 ASL, zero page (R221). -/
  | aslZp (a : Byte)
  /-- 0x07 SLO, zero page (R288). -/
  | sloZp (a : Byte)
  /-- 0x09 ORA, immediate (R204). -/
  | oraImm (v : Byte)
  /-- 0x0C TOP, absolute (R282). -/
  | top0C (a : Addr)
  /-- 0x0D ORA, absolute (R204). -/
  | oraAbs (a : Addr)
  /-- 0x0E ASL, absolute (R221). -/
  | aslAbs (a : Addr)
  /-- 0x0F SLO, absolute (R288). -/
  | sloAbs (a : Addr)
  /-- 0x10 BPL, relative (R251). -/
  | bpl (d : Byte)
  /-- 0x11 ORA, (indirect),Y (R204). -/
  | oraIndy (a : Byte)
  /-- 0x13 SLO, (indirect),Y (R288). -/
  | sloIndy (a : Byte)
  /-- 0x14 DOP, zero page,X (R281). -/
  | dop14 (a : Byte)
  /-- 0x15 ORA, zero page,X (R204). -/
  | oraZpx (a : Byte)
  /-- 0x16 ASL, zero page,X (R221). -/
  | aslZpx (a : Byte)
  /-- 0x17 SLO, zero page,X (R288). -/
  | sloZpx (a : Byte)
  /-- 0x19 ORA, absolute,Y (R204). -/
  | oraAbsy (a : Addr)
  /-- 0x1B SLO, absolute,Y (R288). -/
  | sloAbsy (a : Addr)
  /-- 0x1C TOP, absolute,X (R282). -/
  | top1C (a : Addr)
  /-- 0x1D ORA, absolute,X (R204). -/
  | oraAbsx (a : Addr)
  /-- 0x1E ASL, absolute,X (R221). -/
  | aslAbsx (a : Addr)
  /-- 0x1F SLO, absolute,X (R288). -/
  | sloAbsx (a : Addr)
  /-- 0x20 JSR, absolute (R243). -/
  | jsr (a : Addr)
  /-- 0x21 AND, (indirect,X) (R203). -/
  | andIndx (a : Byte)
  /-- 0x23 RLA, (indirect,X) (R289). -/
  | rlaIndx (a : Byte)
  /-- 0x24 BIT, zero page (R206). -/
  | bitZp (a : Byte)
  /-- 0x25 AND, zero page (R203). -/
  | andZp (a : Byte)
  /-- 0x26 ROL, zero page (R223). -/
  | rolZp (a : Byte)
  /-- 0x27 RLA, zero page (R289). -/
  | rlaZp (a : Byte)
  /-- 0x29 AND, immediate (R203). -/
  | andImm (v : Byte)
  /-- 0x2C BIT, absolute (R206). -/
  | bitAbs (a : Addr)
  /-- 0x2D AND, absolute (R203). -/
  | andAbs (a : Addr)
  /-- 0x2E ROL, absolute (R223). -/
  | rolAbs (a : Addr)
  /-- 0x2F RLA, absolute (R289). -/
  | rlaAbs (a : Addr)
  /-- 0x30 BMI, relative (R252). -/
  | bmi (d : Byte)
  /-- 0x31 AND, (indirect),Y (R203). -/
  | andIndy (a : Byte)
  /-- 0x33 RLA, (indirect),Y (R289). -/
  | rlaIndy (a : Byte)
  /-- 0x34 DOP, zero page,X (R281). -/
  | dop34 (a : Byte)
  /-- 0x35 AND, zero page,X (R203). -/
  | andZpx (a : Byte)
  /-- 0x36 ROL, zero page,X (R223). -/
  | rolZpx (a : Byte)
  /-- 0x37 RLA, zero page,X (R289). -/
  | rlaZpx (a : Byte)
  /-- 0x39 AND, absolute,Y (R203). -/
  | andAbsy (a : Addr)
  /-- 0x3B RLA, absolute,Y (R289). -/
  | rlaAbsy (a : Addr)
  /-- 0x3C TOP, absolute,X (R282). -/
  | top3C (a : Addr)
  /-- 0x3D AND, absolute,X (R203). -/
  | andAbsx (a : Addr)
  /-- 0x3E ROL, absolute,X (R223). -/
  | rolAbsx (a : Addr)
  /-- 0x3F RLA, absolute,X (R289). -/
  | rlaAbsx (a : Addr)
  /-- 0x41 EOR, (indirect,X) (R205). -/
  | eorIndx (a : Byte)
  /-- 0x43 SRE, (indirect,X) (R290). -/
  | sreIndx (a : Byte)
  /-- 0x44 DOP, zero page (R281). -/
  | dop44 (a : Byte)
  /-- 0x45 EOR, zero page (R205). -/
  | eorZp (a : Byte)
  /-- 0x46 LSR, zero page (R222). -/
  | lsrZp (a : Byte)
  /-- 0x47 SRE, zero page (R290). -/
  | sreZp (a : Byte)
  /-- 0x49 EOR, immediate (R205). -/
  | eorImm (v : Byte)
  /-- 0x4C JMP, absolute (R241). -/
  | jmpAbs (a : Addr)
  /-- 0x4D EOR, absolute (R205). -/
  | eorAbs (a : Addr)
  /-- 0x4E LSR, absolute (R222). -/
  | lsrAbs (a : Addr)
  /-- 0x4F SRE, absolute (R290). -/
  | sreAbs (a : Addr)
  /-- 0x50 BVC, relative (R253). -/
  | bvc (d : Byte)
  /-- 0x51 EOR, (indirect),Y (R205). -/
  | eorIndy (a : Byte)
  /-- 0x53 SRE, (indirect),Y (R290). -/
  | sreIndy (a : Byte)
  /-- 0x54 DOP, zero page,X (R281). -/
  | dop54 (a : Byte)
  /-- 0x55 EOR, zero page,X (R205). -/
  | eorZpx (a : Byte)
  /-- 0x56 LSR, zero page,X (R222). -/
  | lsrZpx (a : Byte)
  /-- 0x57 SRE, zero page,X (R290). -/
  | sreZpx (a : Byte)
  /-- 0x59 EOR, absolute,Y (R205). -/
  | eorAbsy (a : Addr)
  /-- 0x5B SRE, absolute,Y (R290). -/
  | sreAbsy (a : Addr)
  /-- 0x5C TOP, absolute,X (R282). -/
  | top5C (a : Addr)
  /-- 0x5D EOR, absolute,X (R205). -/
  | eorAbsx (a : Addr)
  /-- 0x5E LSR, absolute,X (R222). -/
  | lsrAbsx (a : Addr)
  /-- 0x5F SRE, absolute,X (R290). -/
  | sreAbsx (a : Addr)
  /-- 0x61 ADC, (indirect,X) (R201). -/
  | adcIndx (a : Byte)
  /-- 0x63 RRA, (indirect,X) (R291). -/
  | rraIndx (a : Byte)
  /-- 0x64 DOP, zero page (R281). -/
  | dop64 (a : Byte)
  /-- 0x65 ADC, zero page (R201). -/
  | adcZp (a : Byte)
  /-- 0x66 ROR, zero page (R224). -/
  | rorZp (a : Byte)
  /-- 0x67 RRA, zero page (R291). -/
  | rraZp (a : Byte)
  /-- 0x69 ADC, immediate (R201). -/
  | adcImm (v : Byte)
  /-- 0x6C JMP, indirect (R242). -/
  | jmpInd (a : Addr)
  /-- 0x6D ADC, absolute (R201). -/
  | adcAbs (a : Addr)
  /-- 0x6E ROR, absolute (R224). -/
  | rorAbs (a : Addr)
  /-- 0x6F RRA, absolute (R291). -/
  | rraAbs (a : Addr)
  /-- 0x70 BVS, relative (R254). -/
  | bvs (d : Byte)
  /-- 0x71 ADC, (indirect),Y (R201). -/
  | adcIndy (a : Byte)
  /-- 0x73 RRA, (indirect),Y (R291). -/
  | rraIndy (a : Byte)
  /-- 0x74 DOP, zero page,X (R281). -/
  | dop74 (a : Byte)
  /-- 0x75 ADC, zero page,X (R201). -/
  | adcZpx (a : Byte)
  /-- 0x76 ROR, zero page,X (R224). -/
  | rorZpx (a : Byte)
  /-- 0x77 RRA, zero page,X (R291). -/
  | rraZpx (a : Byte)
  /-- 0x79 ADC, absolute,Y (R201). -/
  | adcAbsy (a : Addr)
  /-- 0x7B RRA, absolute,Y (R291). -/
  | rraAbsy (a : Addr)
  /-- 0x7C TOP, absolute,X (R282). -/
  | top7C (a : Addr)
  /-- 0x7D ADC, absolute,X (R201). -/
  | adcAbsx (a : Addr)
  /-- 0x7E ROR, absolute,X (R224). -/
  | rorAbsx (a : Addr)
  /-- 0x7F RRA, absolute,X (R291). -/
  | rraAbsx (a : Addr)
  /-- 0x80 DOP, immediate (R281). -/
  | dop80 (v : Byte)
  /-- 0x81 STA, (indirect,X) (R174). -/
  | staIndx (a : Byte)
  /-- 0x82 DOP, immediate (R281). -/
  | dop82 (v : Byte)
  /-- 0x83 SAX, (indirect,X) (R284). -/
  | saxIndx (a : Byte)
  /-- 0x84 STY, zero page (R176). -/
  | styZp (a : Byte)
  /-- 0x85 STA, zero page (R174). -/
  | staZp (a : Byte)
  /-- 0x86 STX, zero page (R175). -/
  | stxZp (a : Byte)
  /-- 0x87 SAX, zero page (R284). -/
  | saxZp (a : Byte)
  /-- 0x89 DOP, immediate (R281). -/
  | dop89 (v : Byte)
  /-- 0x8C STY, absolute (R176). -/
  | styAbs (a : Addr)
  /-- 0x8D STA, absolute (R174). -/
  | staAbs (a : Addr)
  /-- 0x8E STX, absolute (R175). -/
  | stxAbs (a : Addr)
  /-- 0x8F SAX, absolute (R284). -/
  | saxAbs (a : Addr)
  /-- 0x90 BCC, relative (R255). -/
  | bcc (d : Byte)
  /-- 0x91 STA, (indirect),Y (R174). -/
  | staIndy (a : Byte)
  /-- 0x94 STY, zero page,X (R176). -/
  | styZpx (a : Byte)
  /-- 0x95 STA, zero page,X (R174). -/
  | staZpx (a : Byte)
  /-- 0x96 STX, zero page,Y (R175). -/
  | stxZpy (a : Byte)
  /-- 0x97 SAX, zero page,Y (R284). -/
  | saxZpy (a : Byte)
  /-- 0x99 STA, absolute,Y (R174). -/
  | staAbsy (a : Addr)
  /-- 0x9D STA, absolute,X (R174). -/
  | staAbsx (a : Addr)
  /-- 0xA0 LDY, immediate (R173). -/
  | ldyImm (v : Byte)
  /-- 0xA1 LDA, (indirect,X) (R171). -/
  | ldaIndx (a : Byte)
  /-- 0xA2 LDX, immediate (R172). -/
  | ldxImm (v : Byte)
  /-- 0xA3 LAX, (indirect,X) (R283). -/
  | laxIndx (a : Byte)
  /-- 0xA4 LDY, zero page (R173). -/
  | ldyZp (a : Byte)
  /-- 0xA5 LDA, zero page (R171). -/
  | ldaZp (a : Byte)
  /-- 0xA6 LDX, zero page (R172). -/
  | ldxZp (a : Byte)
  /-- 0xA7 LAX, zero page (R283). -/
  | laxZp (a : Byte)
  /-- 0xA9 LDA, immediate (R171). -/
  | ldaImm (v : Byte)
  /-- 0xAC LDY, absolute (R173). -/
  | ldyAbs (a : Addr)
  /-- 0xAD LDA, absolute (R171). -/
  | ldaAbs (a : Addr)
  /-- 0xAE LDX, absolute (R172). -/
  | ldxAbs (a : Addr)
  /-- 0xAF LAX, absolute (R283). -/
  | laxAbs (a : Addr)
  /-- 0xB0 BCS, relative (R256). -/
  | bcs (d : Byte)
  /-- 0xB1 LDA, (indirect),Y (R171). -/
  | ldaIndy (a : Byte)
  /-- 0xB3 LAX, (indirect),Y (R283). -/
  | laxIndy (a : Byte)
  /-- 0xB4 LDY, zero page,X (R173). -/
  | ldyZpx (a : Byte)
  /-- 0xB5 LDA, zero page,X (R171). -/
  | ldaZpx (a : Byte)
  /-- 0xB6 LDX, zero page,Y (R172). -/
  | ldxZpy (a : Byte)
  /-- 0xB7 LAX, zero page,Y (R283). -/
  | laxZpy (a : Byte)
  /-- 0xB9 LDA, absolute,Y (R171). -/
  | ldaAbsy (a : Addr)
  /-- 0xBC LDY, absolute,X (R173). -/
  | ldyAbsx (a : Addr)
  /-- 0xBD LDA, absolute,X (R171). -/
  | ldaAbsx (a : Addr)
  /-- 0xBE LDX, absolute,Y (R172). -/
  | ldxAbsy (a : Addr)
  /-- 0xBF LAX, absolute,Y (R283). -/
  | laxAbsy (a : Addr)
  /-- 0xC0 CPY, immediate (R209). -/
  | cpyImm (v : Byte)
  /-- 0xC1 CMP, (indirect,X) (R207). -/
  | cmpIndx (a : Byte)
  /-- 0xC2 DOP, immediate (R281). -/
  | dopC2 (v : Byte)
  /-- 0xC3 DCP, (indirect,X) (R286). -/
  | dcpIndx (a : Byte)
  /-- 0xC4 CPY, zero page (R209). -/
  | cpyZp (a : Byte)
  /-- 0xC5 CMP, zero page (R207). -/
  | cmpZp (a : Byte)
  /-- 0xC6 DEC, zero page (R226). -/
  | decZp (a : Byte)
  /-- 0xC7 DCP, zero page (R286). -/
  | dcpZp (a : Byte)
  /-- 0xC9 CMP, immediate (R207). -/
  | cmpImm (v : Byte)
  /-- 0xCC CPY, absolute (R209). -/
  | cpyAbs (a : Addr)
  /-- 0xCD CMP, absolute (R207). -/
  | cmpAbs (a : Addr)
  /-- 0xCE DEC, absolute (R226). -/
  | decAbs (a : Addr)
  /-- 0xCF DCP, absolute (R286). -/
  | dcpAbs (a : Addr)
  /-- 0xD0 BNE, relative (R257). -/
  | bne (d : Byte)
  /-- 0xD1 CMP, (indirect),Y (R207). -/
  | cmpIndy (a : Byte)
  /-- 0xD3 DCP, (indirect),Y (R286). -/
  | dcpIndy (a : Byte)
  /-- 0xD4 DOP, zero page,X (R281). -/
  | dopD4 (a : Byte)
  /-- 0xD5 CMP, zero page,X (R207). -/
  | cmpZpx (a : Byte)
  /-- 0xD6 DEC, zero page,X (R226). -/
  | decZpx (a : Byte)
  /-- 0xD7 DCP, zero page,X (R286). -/
  | dcpZpx (a : Byte)
  /-- 0xD9 CMP, absolute,Y (R207). -/
  | cmpAbsy (a : Addr)
  /-- 0xDB DCP, absolute,Y (R286). -/
  | dcpAbsy (a : Addr)
  /-- 0xDC TOP, absolute,X (R282). -/
  | topDC (a : Addr)
  /-- 0xDD CMP, absolute,X (R207). -/
  | cmpAbsx (a : Addr)
  /-- 0xDE DEC, absolute,X (R226). -/
  | decAbsx (a : Addr)
  /-- 0xDF DCP, absolute,X (R286). -/
  | dcpAbsx (a : Addr)
  /-- 0xE0 CPX, immediate (R208). -/
  | cpxImm (v : Byte)
  /-- 0xE1 SBC, (indirect,X) (R202). -/
  | sbcIndx (a : Byte)
  /-- 0xE2 DOP, immediate (R281). -/
  | dopE2 (v : Byte)
  /-- 0xE3 ISC, (indirect,X) (R287). -/
  | iscIndx (a : Byte)
  /-- 0xE4 CPX, zero page (R208). -/
  | cpxZp (a : Byte)
  /-- 0xE5 SBC, zero page (R202). -/
  | sbcZp (a : Byte)
  /-- 0xE6 INC, zero page (R225). -/
  | incZp (a : Byte)
  /-- 0xE7 ISC, zero page (R287). -/
  | iscZp (a : Byte)
  /-- 0xE9 SBC, immediate (R202). -/
  | sbcImm (v : Byte)
  /-- 0xEB USBC, immediate (R285). -/
  | usbc (v : Byte)
  /-- 0xEC CPX, absolute (R208). -/
  | cpxAbs (a : Addr)
  /-- 0xED SBC, absolute (R202). -/
  | sbcAbs (a : Addr)
  /-- 0xEE INC, absolute (R225). -/
  | incAbs (a : Addr)
  /-- 0xEF ISC, absolute (R287). -/
  | iscAbs (a : Addr)
  /-- 0xF0 BEQ, relative (R258). -/
  | beq (d : Byte)
  /-- 0xF1 SBC, (indirect),Y (R202). -/
  | sbcIndy (a : Byte)
  /-- 0xF3 ISC, (indirect),Y (R287). -/
  | iscIndy (a : Byte)
  /-- 0xF4 DOP, zero page,X (R281). -/
  | dopF4 (a : Byte)
  /-- 0xF5 SBC, zero page,X (R202). -/
  | sbcZpx (a : Byte)
  /-- 0xF6 INC, zero page,X (R225). -/
  | incZpx (a : Byte)
  /-- 0xF7 ISC, zero page,X (R287). -/
  | iscZpx (a : Byte)
  /-- 0xF9 SBC, absolute,Y (R202). -/
  | sbcAbsy (a : Addr)
  /-- 0xFB ISC, absolute,Y (R287). -/
  | iscAbsy (a : Addr)
  /-- 0xFC TOP, absolute,X (R282). -/
  | topFC (a : Addr)
  /-- 0xFD SBC, absolute,X (R202). -/
  | sbcAbsx (a : Addr)
  /-- 0xFE INC, absolute,X (R225). -/
  | incAbsx (a : Addr)
  /-- 0xFF ISC, absolute,X (R287). -/
  | iscAbsx (a : Addr)
  /-- 0x00 BRK, implied (R245). -/
  | brk
  /-- 0x02 UNL, unlisted (R296). -/
  | unl02
  /-- 0x08 PHP, implied (R186). -/
  | php
  /-- 0x0A ASL, accumulator (R221). -/
  | aslAcc
  /-- 0x0B UNL, unlisted (R296). -/
  | unl0B
  /-- 0x12 UNL, unlisted (R296). -/
  | unl12
  /-- 0x18 CLC, implied (R260). -/
  | clc
  /-- 0x1A NOP1, implied (R295). -/
  | nop1x1A
  /-- 0x22 UNL, unlisted (R296). -/
  | unl22
  /-- 0x28 PLP, implied (R188). -/
  | plp
  /-- 0x2A ROL, accumulator (R223). -/
  | rolAcc
  /-- 0x2B UNL, unlisted (R296). -/
  | unl2B
  /-- 0x32 UNL, unlisted (R296). -/
  | unl32
  /-- 0x38 SEC, implied (R261). -/
  | sec
  /-- 0x3A NOP1, implied (R295). -/
  | nop1x3A
  /-- 0x40 RTI, implied (R246). -/
  | rti
  /-- 0x42 UNL, unlisted (R296). -/
  | unl42
  /-- 0x48 PHA, implied (R185). -/
  | pha
  /-- 0x4A LSR, accumulator (R222). -/
  | lsrAcc
  /-- 0x4B UNL, unlisted (R296). -/
  | unl4B
  /-- 0x52 UNL, unlisted (R296). -/
  | unl52
  /-- 0x58 CLI, implied (R262). -/
  | cli
  /-- 0x5A NOP1, implied (R295). -/
  | nop1x5A
  /-- 0x60 RTS, implied (R244). -/
  | rts
  /-- 0x62 UNL, unlisted (R296). -/
  | unl62
  /-- 0x68 PLA, implied (R187). -/
  | pla
  /-- 0x6A ROR, accumulator (R224). -/
  | rorAcc
  /-- 0x6B UNL, unlisted (R296). -/
  | unl6B
  /-- 0x72 UNL, unlisted (R296). -/
  | unl72
  /-- 0x78 SEI, implied (R263). -/
  | sei
  /-- 0x7A NOP1, implied (R295). -/
  | nop1x7A
  /-- 0x88 DEY, implied (R230). -/
  | dey
  /-- 0x8A TXA, implied (R179). -/
  | txa
  /-- 0x8B UNL, unlisted (R296). -/
  | unl8B
  /-- 0x92 UNL, unlisted (R296). -/
  | unl92
  /-- 0x93 UNL, unlisted (R296). -/
  | unl93
  /-- 0x98 TYA, implied (R180). -/
  | tya
  /-- 0x9A TXS, implied (R182). -/
  | txs
  /-- 0x9B UNL, unlisted (R296). -/
  | unl9B
  /-- 0x9C UNL, unlisted (R296). -/
  | unl9C
  /-- 0x9E UNL, unlisted (R296). -/
  | unl9E
  /-- 0x9F UNL, unlisted (R296). -/
  | unl9F
  /-- 0xA8 TAY, implied (R178). -/
  | tay
  /-- 0xAA TAX, implied (R177). -/
  | tax
  /-- 0xAB UNL, unlisted (R296). -/
  | unlAB
  /-- 0xB2 UNL, unlisted (R296). -/
  | unlB2
  /-- 0xB8 CLV, implied (R266). -/
  | clv
  /-- 0xBA TSX, implied (R181). -/
  | tsx
  /-- 0xBB UNL, unlisted (R296). -/
  | unlBB
  /-- 0xC8 INY, implied (R228). -/
  | iny
  /-- 0xCA DEX, implied (R229). -/
  | dex
  /-- 0xCB UNL, unlisted (R296). -/
  | unlCB
  /-- 0xD2 UNL, unlisted (R296). -/
  | unlD2
  /-- 0xD8 CLD, implied (R264). -/
  | cld
  /-- 0xDA NOP1, implied (R295). -/
  | nop1xDA
  /-- 0xE8 INX, implied (R227). -/
  | inx
  /-- 0xEA NOP, implied (R267). -/
  | nop
  /-- 0xF2 UNL, unlisted (R296). -/
  | unlF2
  /-- 0xF8 SED, implied (R265). -/
  | sed
  /-- 0xFA NOP1, implied (R295). -/
  | nop1xFA
  deriving DecidableEq, Repr

end Sys2Proof
end

