-- ==== Sys2Proof/Decode.lean ====
section
/-! DEFINITION. Decode.lean: the opcode matrix (30_encoding.md R120 to R135): the table from opcode values to
instructions, the decoder over any list of bytes, and the encoder. -/

namespace Sys2Proof

open Machine

/-- The mnemonics of spec/opcode_table.json. -/
inductive Mnemonic where
  | brk | ora | unl | slo | dop | asl | php | top | bpl | clc
  | nop1 | jsr | and | rla | bit | rol | plp | bmi | sec | rti
  | eor | sre | lsr | pha | jmp | bvc | cli | rts | adc | rra
  | ror | pla | bvs | sei | sta | sax | sty | stx | dey | txa
  | bcc | tya | txs | ldy | lda | ldx | lax | tay | tax | bcs
  | clv | tsx | cpy | cmp | dcp | dec | iny | dex | bne | cld
  | cpx | sbc | isc | inc | inx | nop | usbc | beq | sed
  deriving DecidableEq, Repr

/-- The thirteen addressing modes with their operand bytes (R121, R123). -/
inductive Operand where
  | impl
  | acc
  | imm (v : Byte)
  | zp (a : Byte)
  | zpx (a : Byte)
  | zpy (a : Byte)
  | rel (d : Byte)
  | abs (a : Addr)
  | absx (a : Addr)
  | absy (a : Addr)
  | ind (a : Addr)
  | indx (a : Byte)
  | indy (a : Byte)
  deriving DecidableEq, Repr

/-- Why bytes do not decode. No opcode value is rejected (R130): only a list that ends too early is. -/
inductive DecodeError where
  /-- There is no byte at all. -/
  | noOpcode
  /-- The list ends before the last operand byte of the opcode. -/
  | missingOperand (op : Byte)
  deriving DecidableEq, Repr

/-- Opcode values 0x00 to 0x0F (R125, R126, R131): the instruction, given the two bytes after the opcode. -/
def opcodeRow0 : List (Byte → Byte → Instr) :=
  [fun _ _ => .brk, fun n _ => .oraIndx n, fun _ _ => .unl02, fun n _ => .sloIndx n,
   fun n _ => .dop04 n, fun n _ => .oraZp n, fun n _ => .aslZp n, fun n _ => .sloZp n,
   fun _ _ => .php, fun n _ => .oraImm n, fun _ _ => .aslAcc, fun _ _ => .unl0B,
   fun l h => .top0C (word16 h l), fun l h => .oraAbs (word16 h l), fun l h => .aslAbs (word16 h l), fun l h => .sloAbs (word16 h l)]

/-- Opcode values 0x10 to 0x1F (R125, R126, R131): the instruction, given the two bytes after the opcode. -/
def opcodeRow1 : List (Byte → Byte → Instr) :=
  [fun n _ => .bpl n, fun n _ => .oraIndy n, fun _ _ => .unl12, fun n _ => .sloIndy n,
   fun n _ => .dop14 n, fun n _ => .oraZpx n, fun n _ => .aslZpx n, fun n _ => .sloZpx n,
   fun _ _ => .clc, fun l h => .oraAbsy (word16 h l), fun _ _ => .nop1x1A, fun l h => .sloAbsy (word16 h l),
   fun l h => .top1C (word16 h l), fun l h => .oraAbsx (word16 h l), fun l h => .aslAbsx (word16 h l), fun l h => .sloAbsx (word16 h l)]

/-- Opcode values 0x20 to 0x2F (R125, R126, R131): the instruction, given the two bytes after the opcode. -/
def opcodeRow2 : List (Byte → Byte → Instr) :=
  [fun l h => .jsr (word16 h l), fun n _ => .andIndx n, fun _ _ => .unl22, fun n _ => .rlaIndx n,
   fun n _ => .bitZp n, fun n _ => .andZp n, fun n _ => .rolZp n, fun n _ => .rlaZp n,
   fun _ _ => .plp, fun n _ => .andImm n, fun _ _ => .rolAcc, fun _ _ => .unl2B,
   fun l h => .bitAbs (word16 h l), fun l h => .andAbs (word16 h l), fun l h => .rolAbs (word16 h l), fun l h => .rlaAbs (word16 h l)]

/-- Opcode values 0x30 to 0x3F (R125, R126, R131): the instruction, given the two bytes after the opcode. -/
def opcodeRow3 : List (Byte → Byte → Instr) :=
  [fun n _ => .bmi n, fun n _ => .andIndy n, fun _ _ => .unl32, fun n _ => .rlaIndy n,
   fun n _ => .dop34 n, fun n _ => .andZpx n, fun n _ => .rolZpx n, fun n _ => .rlaZpx n,
   fun _ _ => .sec, fun l h => .andAbsy (word16 h l), fun _ _ => .nop1x3A, fun l h => .rlaAbsy (word16 h l),
   fun l h => .top3C (word16 h l), fun l h => .andAbsx (word16 h l), fun l h => .rolAbsx (word16 h l), fun l h => .rlaAbsx (word16 h l)]

/-- Opcode values 0x40 to 0x4F (R125, R126, R131): the instruction, given the two bytes after the opcode. -/
def opcodeRow4 : List (Byte → Byte → Instr) :=
  [fun _ _ => .rti, fun n _ => .eorIndx n, fun _ _ => .unl42, fun n _ => .sreIndx n,
   fun n _ => .dop44 n, fun n _ => .eorZp n, fun n _ => .lsrZp n, fun n _ => .sreZp n,
   fun _ _ => .pha, fun n _ => .eorImm n, fun _ _ => .lsrAcc, fun _ _ => .unl4B,
   fun l h => .jmpAbs (word16 h l), fun l h => .eorAbs (word16 h l), fun l h => .lsrAbs (word16 h l), fun l h => .sreAbs (word16 h l)]

/-- Opcode values 0x50 to 0x5F (R125, R126, R131): the instruction, given the two bytes after the opcode. -/
def opcodeRow5 : List (Byte → Byte → Instr) :=
  [fun n _ => .bvc n, fun n _ => .eorIndy n, fun _ _ => .unl52, fun n _ => .sreIndy n,
   fun n _ => .dop54 n, fun n _ => .eorZpx n, fun n _ => .lsrZpx n, fun n _ => .sreZpx n,
   fun _ _ => .cli, fun l h => .eorAbsy (word16 h l), fun _ _ => .nop1x5A, fun l h => .sreAbsy (word16 h l),
   fun l h => .top5C (word16 h l), fun l h => .eorAbsx (word16 h l), fun l h => .lsrAbsx (word16 h l), fun l h => .sreAbsx (word16 h l)]

/-- Opcode values 0x60 to 0x6F (R125, R126, R131): the instruction, given the two bytes after the opcode. -/
def opcodeRow6 : List (Byte → Byte → Instr) :=
  [fun _ _ => .rts, fun n _ => .adcIndx n, fun _ _ => .unl62, fun n _ => .rraIndx n,
   fun n _ => .dop64 n, fun n _ => .adcZp n, fun n _ => .rorZp n, fun n _ => .rraZp n,
   fun _ _ => .pla, fun n _ => .adcImm n, fun _ _ => .rorAcc, fun _ _ => .unl6B,
   fun l h => .jmpInd (word16 h l), fun l h => .adcAbs (word16 h l), fun l h => .rorAbs (word16 h l), fun l h => .rraAbs (word16 h l)]

/-- Opcode values 0x70 to 0x7F (R125, R126, R131): the instruction, given the two bytes after the opcode. -/
def opcodeRow7 : List (Byte → Byte → Instr) :=
  [fun n _ => .bvs n, fun n _ => .adcIndy n, fun _ _ => .unl72, fun n _ => .rraIndy n,
   fun n _ => .dop74 n, fun n _ => .adcZpx n, fun n _ => .rorZpx n, fun n _ => .rraZpx n,
   fun _ _ => .sei, fun l h => .adcAbsy (word16 h l), fun _ _ => .nop1x7A, fun l h => .rraAbsy (word16 h l),
   fun l h => .top7C (word16 h l), fun l h => .adcAbsx (word16 h l), fun l h => .rorAbsx (word16 h l), fun l h => .rraAbsx (word16 h l)]

/-- Opcode values 0x80 to 0x8F (R125, R126, R131): the instruction, given the two bytes after the opcode. -/
def opcodeRow8 : List (Byte → Byte → Instr) :=
  [fun n _ => .dop80 n, fun n _ => .staIndx n, fun n _ => .dop82 n, fun n _ => .saxIndx n,
   fun n _ => .styZp n, fun n _ => .staZp n, fun n _ => .stxZp n, fun n _ => .saxZp n,
   fun _ _ => .dey, fun n _ => .dop89 n, fun _ _ => .txa, fun _ _ => .unl8B,
   fun l h => .styAbs (word16 h l), fun l h => .staAbs (word16 h l), fun l h => .stxAbs (word16 h l), fun l h => .saxAbs (word16 h l)]

/-- Opcode values 0x90 to 0x9F (R125, R126, R131): the instruction, given the two bytes after the opcode. -/
def opcodeRow9 : List (Byte → Byte → Instr) :=
  [fun n _ => .bcc n, fun n _ => .staIndy n, fun _ _ => .unl92, fun _ _ => .unl93,
   fun n _ => .styZpx n, fun n _ => .staZpx n, fun n _ => .stxZpy n, fun n _ => .saxZpy n,
   fun _ _ => .tya, fun l h => .staAbsy (word16 h l), fun _ _ => .txs, fun _ _ => .unl9B,
   fun _ _ => .unl9C, fun l h => .staAbsx (word16 h l), fun _ _ => .unl9E, fun _ _ => .unl9F]

/-- Opcode values 0xA0 to 0xAF (R125, R126, R131): the instruction, given the two bytes after the opcode. -/
def opcodeRowA : List (Byte → Byte → Instr) :=
  [fun n _ => .ldyImm n, fun n _ => .ldaIndx n, fun n _ => .ldxImm n, fun n _ => .laxIndx n,
   fun n _ => .ldyZp n, fun n _ => .ldaZp n, fun n _ => .ldxZp n, fun n _ => .laxZp n,
   fun _ _ => .tay, fun n _ => .ldaImm n, fun _ _ => .tax, fun _ _ => .unlAB,
   fun l h => .ldyAbs (word16 h l), fun l h => .ldaAbs (word16 h l), fun l h => .ldxAbs (word16 h l), fun l h => .laxAbs (word16 h l)]

/-- Opcode values 0xB0 to 0xBF (R125, R126, R131): the instruction, given the two bytes after the opcode. -/
def opcodeRowB : List (Byte → Byte → Instr) :=
  [fun n _ => .bcs n, fun n _ => .ldaIndy n, fun _ _ => .unlB2, fun n _ => .laxIndy n,
   fun n _ => .ldyZpx n, fun n _ => .ldaZpx n, fun n _ => .ldxZpy n, fun n _ => .laxZpy n,
   fun _ _ => .clv, fun l h => .ldaAbsy (word16 h l), fun _ _ => .tsx, fun _ _ => .unlBB,
   fun l h => .ldyAbsx (word16 h l), fun l h => .ldaAbsx (word16 h l), fun l h => .ldxAbsy (word16 h l), fun l h => .laxAbsy (word16 h l)]

/-- Opcode values 0xC0 to 0xCF (R125, R126, R131): the instruction, given the two bytes after the opcode. -/
def opcodeRowC : List (Byte → Byte → Instr) :=
  [fun n _ => .cpyImm n, fun n _ => .cmpIndx n, fun n _ => .dopC2 n, fun n _ => .dcpIndx n,
   fun n _ => .cpyZp n, fun n _ => .cmpZp n, fun n _ => .decZp n, fun n _ => .dcpZp n,
   fun _ _ => .iny, fun n _ => .cmpImm n, fun _ _ => .dex, fun _ _ => .unlCB,
   fun l h => .cpyAbs (word16 h l), fun l h => .cmpAbs (word16 h l), fun l h => .decAbs (word16 h l), fun l h => .dcpAbs (word16 h l)]

/-- Opcode values 0xD0 to 0xDF (R125, R126, R131): the instruction, given the two bytes after the opcode. -/
def opcodeRowD : List (Byte → Byte → Instr) :=
  [fun n _ => .bne n, fun n _ => .cmpIndy n, fun _ _ => .unlD2, fun n _ => .dcpIndy n,
   fun n _ => .dopD4 n, fun n _ => .cmpZpx n, fun n _ => .decZpx n, fun n _ => .dcpZpx n,
   fun _ _ => .cld, fun l h => .cmpAbsy (word16 h l), fun _ _ => .nop1xDA, fun l h => .dcpAbsy (word16 h l),
   fun l h => .topDC (word16 h l), fun l h => .cmpAbsx (word16 h l), fun l h => .decAbsx (word16 h l), fun l h => .dcpAbsx (word16 h l)]

/-- Opcode values 0xE0 to 0xEF (R125, R126, R131): the instruction, given the two bytes after the opcode. -/
def opcodeRowE : List (Byte → Byte → Instr) :=
  [fun n _ => .cpxImm n, fun n _ => .sbcIndx n, fun n _ => .dopE2 n, fun n _ => .iscIndx n,
   fun n _ => .cpxZp n, fun n _ => .sbcZp n, fun n _ => .incZp n, fun n _ => .iscZp n,
   fun _ _ => .inx, fun n _ => .sbcImm n, fun _ _ => .nop, fun n _ => .usbc n,
   fun l h => .cpxAbs (word16 h l), fun l h => .sbcAbs (word16 h l), fun l h => .incAbs (word16 h l), fun l h => .iscAbs (word16 h l)]

/-- Opcode values 0xF0 to 0xFF (R125, R126, R131): the instruction, given the two bytes after the opcode. -/
def opcodeRowF : List (Byte → Byte → Instr) :=
  [fun n _ => .beq n, fun n _ => .sbcIndy n, fun _ _ => .unlF2, fun n _ => .iscIndy n,
   fun n _ => .dopF4 n, fun n _ => .sbcZpx n, fun n _ => .incZpx n, fun n _ => .iscZpx n,
   fun _ _ => .sed, fun l h => .sbcAbsy (word16 h l), fun _ _ => .nop1xFA, fun l h => .iscAbsy (word16 h l),
   fun l h => .topFC (word16 h l), fun l h => .sbcAbsx (word16 h l), fun l h => .incAbsx (word16 h l), fun l h => .iscAbsx (word16 h l)]

/-- The opcode matrix, indexed by the high and then the low four bits of the opcode value (R125, R126, R127, R131). -/
def opcodeTable : List (List (Byte → Byte → Instr)) :=
  [opcodeRow0, opcodeRow1, opcodeRow2, opcodeRow3, opcodeRow4, opcodeRow5, opcodeRow6, opcodeRow7,
   opcodeRow8, opcodeRow9, opcodeRowA, opcodeRowB, opcodeRowC, opcodeRowD, opcodeRowE, opcodeRowF]

theorem opcodeTable_length : opcodeTable.length = 16 := rfl

/-- Every opcode value has its entry (R127, R130). -/
theorem opcodeTable_full : ∀ row ∈ opcodeTable, row.length = 16 := by
  simp only [opcodeTable, List.forall_mem_cons]
  exact ⟨rfl, rfl, rfl, rfl, rfl, rfl, rfl, rfl, rfl, rfl, rfl, rfl, rfl, rfl, rfl, rfl, List.forall_mem_nil _⟩

/-- The row of the matrix for an opcode value. -/
def opcodeRow (op : Byte) : List (Byte → Byte → Instr) :=
  opcodeTable[op.toNat / 16]'(by rw [opcodeTable_length]; have := op.isLt; omega)

/-- The instruction of the opcode `op` followed by the bytes `b1` and `b2`; a byte the opcode does not take is
ignored. "unknown opcodes are not possible because all 256 are dispatched" (R130). -/
def decodeOpcode (op b1 b2 : Byte) : Instr :=
  ((opcodeRow op)[op.toNat % 16]'(by
    rw [opcodeTable_full (opcodeRow op) (List.getElem_mem _)]; exact Nat.mod_lt _ (by omega))) b1 b2

/-- The table's row of an instruction: opcode value, mnemonic, and addressing mode with its operand (R121, R125, R126, R131). -/
def Instr.row : Instr → Byte × Mnemonic × Operand
  | .brk => (0x00, .brk, .impl)
  | .oraIndx a => (0x01, .ora, .indx a)
  | .unl02 => (0x02, .unl, .impl)
  | .sloIndx a => (0x03, .slo, .indx a)
  | .dop04 a => (0x04, .dop, .zp a)
  | .oraZp a => (0x05, .ora, .zp a)
  | .aslZp a => (0x06, .asl, .zp a)
  | .sloZp a => (0x07, .slo, .zp a)
  | .php => (0x08, .php, .impl)
  | .oraImm v => (0x09, .ora, .imm v)
  | .aslAcc => (0x0A, .asl, .acc)
  | .unl0B => (0x0B, .unl, .impl)
  | .top0C a => (0x0C, .top, .abs a)
  | .oraAbs a => (0x0D, .ora, .abs a)
  | .aslAbs a => (0x0E, .asl, .abs a)
  | .sloAbs a => (0x0F, .slo, .abs a)
  | .bpl d => (0x10, .bpl, .rel d)
  | .oraIndy a => (0x11, .ora, .indy a)
  | .unl12 => (0x12, .unl, .impl)
  | .sloIndy a => (0x13, .slo, .indy a)
  | .dop14 a => (0x14, .dop, .zpx a)
  | .oraZpx a => (0x15, .ora, .zpx a)
  | .aslZpx a => (0x16, .asl, .zpx a)
  | .sloZpx a => (0x17, .slo, .zpx a)
  | .clc => (0x18, .clc, .impl)
  | .oraAbsy a => (0x19, .ora, .absy a)
  | .nop1x1A => (0x1A, .nop1, .impl)
  | .sloAbsy a => (0x1B, .slo, .absy a)
  | .top1C a => (0x1C, .top, .absx a)
  | .oraAbsx a => (0x1D, .ora, .absx a)
  | .aslAbsx a => (0x1E, .asl, .absx a)
  | .sloAbsx a => (0x1F, .slo, .absx a)
  | .jsr a => (0x20, .jsr, .abs a)
  | .andIndx a => (0x21, .and, .indx a)
  | .unl22 => (0x22, .unl, .impl)
  | .rlaIndx a => (0x23, .rla, .indx a)
  | .bitZp a => (0x24, .bit, .zp a)
  | .andZp a => (0x25, .and, .zp a)
  | .rolZp a => (0x26, .rol, .zp a)
  | .rlaZp a => (0x27, .rla, .zp a)
  | .plp => (0x28, .plp, .impl)
  | .andImm v => (0x29, .and, .imm v)
  | .rolAcc => (0x2A, .rol, .acc)
  | .unl2B => (0x2B, .unl, .impl)
  | .bitAbs a => (0x2C, .bit, .abs a)
  | .andAbs a => (0x2D, .and, .abs a)
  | .rolAbs a => (0x2E, .rol, .abs a)
  | .rlaAbs a => (0x2F, .rla, .abs a)
  | .bmi d => (0x30, .bmi, .rel d)
  | .andIndy a => (0x31, .and, .indy a)
  | .unl32 => (0x32, .unl, .impl)
  | .rlaIndy a => (0x33, .rla, .indy a)
  | .dop34 a => (0x34, .dop, .zpx a)
  | .andZpx a => (0x35, .and, .zpx a)
  | .rolZpx a => (0x36, .rol, .zpx a)
  | .rlaZpx a => (0x37, .rla, .zpx a)
  | .sec => (0x38, .sec, .impl)
  | .andAbsy a => (0x39, .and, .absy a)
  | .nop1x3A => (0x3A, .nop1, .impl)
  | .rlaAbsy a => (0x3B, .rla, .absy a)
  | .top3C a => (0x3C, .top, .absx a)
  | .andAbsx a => (0x3D, .and, .absx a)
  | .rolAbsx a => (0x3E, .rol, .absx a)
  | .rlaAbsx a => (0x3F, .rla, .absx a)
  | .rti => (0x40, .rti, .impl)
  | .eorIndx a => (0x41, .eor, .indx a)
  | .unl42 => (0x42, .unl, .impl)
  | .sreIndx a => (0x43, .sre, .indx a)
  | .dop44 a => (0x44, .dop, .zp a)
  | .eorZp a => (0x45, .eor, .zp a)
  | .lsrZp a => (0x46, .lsr, .zp a)
  | .sreZp a => (0x47, .sre, .zp a)
  | .pha => (0x48, .pha, .impl)
  | .eorImm v => (0x49, .eor, .imm v)
  | .lsrAcc => (0x4A, .lsr, .acc)
  | .unl4B => (0x4B, .unl, .impl)
  | .jmpAbs a => (0x4C, .jmp, .abs a)
  | .eorAbs a => (0x4D, .eor, .abs a)
  | .lsrAbs a => (0x4E, .lsr, .abs a)
  | .sreAbs a => (0x4F, .sre, .abs a)
  | .bvc d => (0x50, .bvc, .rel d)
  | .eorIndy a => (0x51, .eor, .indy a)
  | .unl52 => (0x52, .unl, .impl)
  | .sreIndy a => (0x53, .sre, .indy a)
  | .dop54 a => (0x54, .dop, .zpx a)
  | .eorZpx a => (0x55, .eor, .zpx a)
  | .lsrZpx a => (0x56, .lsr, .zpx a)
  | .sreZpx a => (0x57, .sre, .zpx a)
  | .cli => (0x58, .cli, .impl)
  | .eorAbsy a => (0x59, .eor, .absy a)
  | .nop1x5A => (0x5A, .nop1, .impl)
  | .sreAbsy a => (0x5B, .sre, .absy a)
  | .top5C a => (0x5C, .top, .absx a)
  | .eorAbsx a => (0x5D, .eor, .absx a)
  | .lsrAbsx a => (0x5E, .lsr, .absx a)
  | .sreAbsx a => (0x5F, .sre, .absx a)
  | .rts => (0x60, .rts, .impl)
  | .adcIndx a => (0x61, .adc, .indx a)
  | .unl62 => (0x62, .unl, .impl)
  | .rraIndx a => (0x63, .rra, .indx a)
  | .dop64 a => (0x64, .dop, .zp a)
  | .adcZp a => (0x65, .adc, .zp a)
  | .rorZp a => (0x66, .ror, .zp a)
  | .rraZp a => (0x67, .rra, .zp a)
  | .pla => (0x68, .pla, .impl)
  | .adcImm v => (0x69, .adc, .imm v)
  | .rorAcc => (0x6A, .ror, .acc)
  | .unl6B => (0x6B, .unl, .impl)
  | .jmpInd a => (0x6C, .jmp, .ind a)
  | .adcAbs a => (0x6D, .adc, .abs a)
  | .rorAbs a => (0x6E, .ror, .abs a)
  | .rraAbs a => (0x6F, .rra, .abs a)
  | .bvs d => (0x70, .bvs, .rel d)
  | .adcIndy a => (0x71, .adc, .indy a)
  | .unl72 => (0x72, .unl, .impl)
  | .rraIndy a => (0x73, .rra, .indy a)
  | .dop74 a => (0x74, .dop, .zpx a)
  | .adcZpx a => (0x75, .adc, .zpx a)
  | .rorZpx a => (0x76, .ror, .zpx a)
  | .rraZpx a => (0x77, .rra, .zpx a)
  | .sei => (0x78, .sei, .impl)
  | .adcAbsy a => (0x79, .adc, .absy a)
  | .nop1x7A => (0x7A, .nop1, .impl)
  | .rraAbsy a => (0x7B, .rra, .absy a)
  | .top7C a => (0x7C, .top, .absx a)
  | .adcAbsx a => (0x7D, .adc, .absx a)
  | .rorAbsx a => (0x7E, .ror, .absx a)
  | .rraAbsx a => (0x7F, .rra, .absx a)
  | .dop80 v => (0x80, .dop, .imm v)
  | .staIndx a => (0x81, .sta, .indx a)
  | .dop82 v => (0x82, .dop, .imm v)
  | .saxIndx a => (0x83, .sax, .indx a)
  | .styZp a => (0x84, .sty, .zp a)
  | .staZp a => (0x85, .sta, .zp a)
  | .stxZp a => (0x86, .stx, .zp a)
  | .saxZp a => (0x87, .sax, .zp a)
  | .dey => (0x88, .dey, .impl)
  | .dop89 v => (0x89, .dop, .imm v)
  | .txa => (0x8A, .txa, .impl)
  | .unl8B => (0x8B, .unl, .impl)
  | .styAbs a => (0x8C, .sty, .abs a)
  | .staAbs a => (0x8D, .sta, .abs a)
  | .stxAbs a => (0x8E, .stx, .abs a)
  | .saxAbs a => (0x8F, .sax, .abs a)
  | .bcc d => (0x90, .bcc, .rel d)
  | .staIndy a => (0x91, .sta, .indy a)
  | .unl92 => (0x92, .unl, .impl)
  | .unl93 => (0x93, .unl, .impl)
  | .styZpx a => (0x94, .sty, .zpx a)
  | .staZpx a => (0x95, .sta, .zpx a)
  | .stxZpy a => (0x96, .stx, .zpy a)
  | .saxZpy a => (0x97, .sax, .zpy a)
  | .tya => (0x98, .tya, .impl)
  | .staAbsy a => (0x99, .sta, .absy a)
  | .txs => (0x9A, .txs, .impl)
  | .unl9B => (0x9B, .unl, .impl)
  | .unl9C => (0x9C, .unl, .impl)
  | .staAbsx a => (0x9D, .sta, .absx a)
  | .unl9E => (0x9E, .unl, .impl)
  | .unl9F => (0x9F, .unl, .impl)
  | .ldyImm v => (0xA0, .ldy, .imm v)
  | .ldaIndx a => (0xA1, .lda, .indx a)
  | .ldxImm v => (0xA2, .ldx, .imm v)
  | .laxIndx a => (0xA3, .lax, .indx a)
  | .ldyZp a => (0xA4, .ldy, .zp a)
  | .ldaZp a => (0xA5, .lda, .zp a)
  | .ldxZp a => (0xA6, .ldx, .zp a)
  | .laxZp a => (0xA7, .lax, .zp a)
  | .tay => (0xA8, .tay, .impl)
  | .ldaImm v => (0xA9, .lda, .imm v)
  | .tax => (0xAA, .tax, .impl)
  | .unlAB => (0xAB, .unl, .impl)
  | .ldyAbs a => (0xAC, .ldy, .abs a)
  | .ldaAbs a => (0xAD, .lda, .abs a)
  | .ldxAbs a => (0xAE, .ldx, .abs a)
  | .laxAbs a => (0xAF, .lax, .abs a)
  | .bcs d => (0xB0, .bcs, .rel d)
  | .ldaIndy a => (0xB1, .lda, .indy a)
  | .unlB2 => (0xB2, .unl, .impl)
  | .laxIndy a => (0xB3, .lax, .indy a)
  | .ldyZpx a => (0xB4, .ldy, .zpx a)
  | .ldaZpx a => (0xB5, .lda, .zpx a)
  | .ldxZpy a => (0xB6, .ldx, .zpy a)
  | .laxZpy a => (0xB7, .lax, .zpy a)
  | .clv => (0xB8, .clv, .impl)
  | .ldaAbsy a => (0xB9, .lda, .absy a)
  | .tsx => (0xBA, .tsx, .impl)
  | .unlBB => (0xBB, .unl, .impl)
  | .ldyAbsx a => (0xBC, .ldy, .absx a)
  | .ldaAbsx a => (0xBD, .lda, .absx a)
  | .ldxAbsy a => (0xBE, .ldx, .absy a)
  | .laxAbsy a => (0xBF, .lax, .absy a)
  | .cpyImm v => (0xC0, .cpy, .imm v)
  | .cmpIndx a => (0xC1, .cmp, .indx a)
  | .dopC2 v => (0xC2, .dop, .imm v)
  | .dcpIndx a => (0xC3, .dcp, .indx a)
  | .cpyZp a => (0xC4, .cpy, .zp a)
  | .cmpZp a => (0xC5, .cmp, .zp a)
  | .decZp a => (0xC6, .dec, .zp a)
  | .dcpZp a => (0xC7, .dcp, .zp a)
  | .iny => (0xC8, .iny, .impl)
  | .cmpImm v => (0xC9, .cmp, .imm v)
  | .dex => (0xCA, .dex, .impl)
  | .unlCB => (0xCB, .unl, .impl)
  | .cpyAbs a => (0xCC, .cpy, .abs a)
  | .cmpAbs a => (0xCD, .cmp, .abs a)
  | .decAbs a => (0xCE, .dec, .abs a)
  | .dcpAbs a => (0xCF, .dcp, .abs a)
  | .bne d => (0xD0, .bne, .rel d)
  | .cmpIndy a => (0xD1, .cmp, .indy a)
  | .unlD2 => (0xD2, .unl, .impl)
  | .dcpIndy a => (0xD3, .dcp, .indy a)
  | .dopD4 a => (0xD4, .dop, .zpx a)
  | .cmpZpx a => (0xD5, .cmp, .zpx a)
  | .decZpx a => (0xD6, .dec, .zpx a)
  | .dcpZpx a => (0xD7, .dcp, .zpx a)
  | .cld => (0xD8, .cld, .impl)
  | .cmpAbsy a => (0xD9, .cmp, .absy a)
  | .nop1xDA => (0xDA, .nop1, .impl)
  | .dcpAbsy a => (0xDB, .dcp, .absy a)
  | .topDC a => (0xDC, .top, .absx a)
  | .cmpAbsx a => (0xDD, .cmp, .absx a)
  | .decAbsx a => (0xDE, .dec, .absx a)
  | .dcpAbsx a => (0xDF, .dcp, .absx a)
  | .cpxImm v => (0xE0, .cpx, .imm v)
  | .sbcIndx a => (0xE1, .sbc, .indx a)
  | .dopE2 v => (0xE2, .dop, .imm v)
  | .iscIndx a => (0xE3, .isc, .indx a)
  | .cpxZp a => (0xE4, .cpx, .zp a)
  | .sbcZp a => (0xE5, .sbc, .zp a)
  | .incZp a => (0xE6, .inc, .zp a)
  | .iscZp a => (0xE7, .isc, .zp a)
  | .inx => (0xE8, .inx, .impl)
  | .sbcImm v => (0xE9, .sbc, .imm v)
  | .nop => (0xEA, .nop, .impl)
  | .usbc v => (0xEB, .usbc, .imm v)
  | .cpxAbs a => (0xEC, .cpx, .abs a)
  | .sbcAbs a => (0xED, .sbc, .abs a)
  | .incAbs a => (0xEE, .inc, .abs a)
  | .iscAbs a => (0xEF, .isc, .abs a)
  | .beq d => (0xF0, .beq, .rel d)
  | .sbcIndy a => (0xF1, .sbc, .indy a)
  | .unlF2 => (0xF2, .unl, .impl)
  | .iscIndy a => (0xF3, .isc, .indy a)
  | .dopF4 a => (0xF4, .dop, .zpx a)
  | .sbcZpx a => (0xF5, .sbc, .zpx a)
  | .incZpx a => (0xF6, .inc, .zpx a)
  | .iscZpx a => (0xF7, .isc, .zpx a)
  | .sed => (0xF8, .sed, .impl)
  | .sbcAbsy a => (0xF9, .sbc, .absy a)
  | .nop1xFA => (0xFA, .nop1, .impl)
  | .iscAbsy a => (0xFB, .isc, .absy a)
  | .topFC a => (0xFC, .top, .absx a)
  | .sbcAbsx a => (0xFD, .sbc, .absx a)
  | .incAbsx a => (0xFE, .inc, .absx a)
  | .iscAbsx a => (0xFF, .isc, .absx a)

/-- The opcode value. -/
def Instr.opcode (i : Instr) : Byte := i.row.1

/-- The mnemonic. -/
def Instr.mnemonic (i : Instr) : Mnemonic := i.row.2.1

/-- The addressing mode with its operand. An unlisted opcode has none that is known (R131). -/
def Instr.operand (i : Instr) : Operand := i.row.2.2

/-- The operand bytes of a mode, in the order they stand in memory: low byte first (R122, R123, R80). -/
def Operand.bytes : Operand → List Byte
  | .impl => []
  | .acc => []
  | .imm v => [v]
  | .zp a => [a]
  | .zpx a => [a]
  | .zpy a => [a]
  | .rel d => [d]
  | .abs a => [loByte a, hiByte a]
  | .absx a => [loByte a, hiByte a]
  | .absy a => [loByte a, hiByte a]
  | .ind a => [loByte a, hiByte a]
  | .indx a => [a]
  | .indy a => [a]

/-- How many operand bytes the opcode takes: the opcode byte alone determines the length (R120, R132). An unlisted
opcode's further bytes are not read as operands (R296). -/
def operandCount (op : Byte) : Nat := (decodeOpcode op 0 0).operand.bytes.length

/-- Decode the first instruction of a list of bytes, giving it and the bytes after it. -/
def decode : List Byte → Except DecodeError (Instr × List Byte)
  | [] => .error .noOpcode
  | op :: rest =>
    if rest.length < operandCount op then .error (.missingOperand op)
    else .ok (decodeOpcode op (rest.getD 0 0) (rest.getD 1 0), rest.drop (operandCount op))

/-- The bytes of an instruction: opcode, then operand bytes (R120, R122). -/
def encode (i : Instr) : List Byte := i.opcode :: i.operand.bytes

/-- The first three bytes of an instruction whose bits are `w` (bit 0 the least significant bit of the first byte), the bits
from `nbits` up being zero. -/
def tableBytes (nbits w : Nat) : List Byte :=
  [BitVec.ofNat 8 (w % 2 ^ nbits), BitVec.ofNat 8 (w % 2 ^ nbits / 256), BitVec.ofNat 8 (w % 2 ^ nbits / 65536)]

/-- The instruction the decoder reads from an opcode-table word. -/
def decodeTableWord (nbits w : Nat) : Option Instr :=
  match decode (tableBytes nbits w) with
  | .ok (i, _) => some i
  | .error _ => none

end Sys2Proof
end

