-- ==== Sys2Proof/Config.lean ====
section
/-! DEFINITION. Config.lean: the parameters the spec leaves OPEN (00_scope.md R11, 92_eei_decisions.md).
Each is an uninterpreted constant: nothing in Lean can find out its value, so a proof about the model holds
for every value. The parameters the spec DECIDES stand in Machine/Parameters.lean. -/

namespace Sys2Proof

/-- FREE VALUE `PPU_WO_READ` (R333, D12): the byte returned by the `n`-th read of a PPU register that the spec
marks not readable (0, 1, 3, 5, 6). The state counts the reads, so that no two reads are forced to agree.
Assumption log 1. -/
opaque Config.ppuWriteOnlyRead : Nat → Byte

/-- FREE VALUE `IRQ_MASKED_POLICY` (R413, D3): `true` = keep, `false` = drop. Assumption log 2. -/
opaque Config.irqMaskedKeep : Bool

/-- FREE VALUE `PALETTE_RGB[0..63]` (R390, D15): the 24-bit colour of a 6-bit NES colour. Assumption log 3. -/
opaque Config.paletteRgb : BitVec 6 → Rgb

/-- FREE VALUE `UNLISTED_LEN[op] - 1` (R131, R132, R296, D5): how many bytes beyond its opcode an unlisted opcode
takes. An instruction is 1, 2 or 3 bytes (R120), so it is 0, 1 or 2. Assumption log 4. -/
opaque Config.unlistedOperands : Byte → Fin 3

end Sys2Proof
end

