-- ==== Sys2Proof/Machine/Parameters.lean ====
section
/-! DEFINITION. Machine/Parameters.lean: the parameters the spec DECIDES (00_scope.md R9, R11) and the base cycle table (30_encoding.md R124). -/

namespace Sys2Proof.Machine

/-- `NMI_PCL_PUSH_MASK` (R412, D2): the mask applied to PCL when an NMI pushes it. -/
def nmiPclPushMask : Byte := 0xF0

/-- `NOP_OPERAND_READ` (R281, R282, D6): DOP and TOP read memory at their effective address. -/
def nopOperandRead : Bool := true

/-- `STATUS_LOW_BITS` (R320, D13). -/
def statusLowBits : BitVec 5 := 0

/-- `BG_CLIP_ACTIVE` (R370, D14): the level of Mask bit 1 at which background clipping of dots 0..7 is on. -/
def bgClipActive : Bool := true

/-- `SPR_CLIP_ACTIVE` (R370, D14): the level of Mask bit 2 at which sprite clipping of dots 0..7 is on. -/
def sprClipActive : Bool := true

/-- `INIT_PPU_CATCHUP` (R440, D16): whether the 7 cycles charged by `Init` advance the PPU. -/
def initPpuCatchup : Bool := false

/-- The extra cycles a write to 0x4014 returns (R9, R78). -/
def dmaCycles : Nat := 513

/-- The cycles of an interrupt service and of power-on (R9, R410). -/
def serviceCycles : Nat := 7

/-- PPU dots per CPU cycle (R9, R100). -/
def dotsPerCycle : Nat := 3

/-- `firstRenderScanline` (48_ppu_rendering.md, notation). -/
def firstRenderScanline : Nat := 21

/-- The base cycle table of R124, one line per opcode high nibble. -/
def baseTable : List (List Nat) :=
  [[7, 6, 2, 8, 3, 3, 5, 5, 3, 2, 2, 2, 4, 4, 6, 6],
   [2, 5, 2, 8, 4, 4, 6, 6, 2, 4, 2, 7, 4, 4, 7, 7],
   [6, 6, 2, 8, 3, 3, 5, 5, 4, 2, 2, 2, 4, 4, 6, 6],
   [2, 5, 2, 8, 4, 4, 6, 6, 2, 4, 2, 7, 4, 4, 7, 7],
   [6, 6, 2, 8, 3, 3, 5, 5, 3, 2, 2, 2, 3, 4, 6, 6],
   [2, 5, 2, 8, 4, 4, 6, 6, 2, 4, 2, 7, 4, 4, 7, 7],
   [6, 6, 2, 8, 3, 3, 5, 5, 4, 2, 2, 2, 5, 4, 6, 6],
   [2, 5, 2, 8, 4, 4, 6, 6, 2, 4, 2, 7, 4, 4, 7, 7],
   [2, 6, 2, 6, 3, 3, 3, 3, 2, 2, 2, 2, 4, 4, 4, 4],
   [2, 6, 2, 6, 4, 4, 4, 4, 2, 5, 2, 5, 5, 5, 5, 5],
   [2, 6, 2, 6, 3, 3, 3, 3, 2, 2, 2, 2, 4, 4, 4, 4],
   [2, 5, 2, 5, 4, 4, 4, 4, 2, 4, 2, 4, 4, 4, 4, 4],
   [2, 6, 2, 8, 3, 3, 5, 5, 2, 2, 2, 2, 4, 4, 6, 6],
   [2, 5, 2, 8, 4, 4, 6, 6, 2, 4, 2, 7, 4, 4, 7, 7],
   [2, 6, 3, 8, 3, 3, 5, 5, 2, 2, 2, 2, 4, 4, 6, 6],
   [2, 5, 2, 8, 4, 4, 6, 6, 2, 4, 2, 7, 4, 4, 7, 7]]

/-- `BASE[op]`: the entry at row `op >> 4`, column `op & 15` (R124). -/
def baseCycles (op : Byte) : Nat := (baseTable.getD (op.toNat / 16) []).getD (op.toNat % 16) 0

end Sys2Proof.Machine
end

