-- ==== Sys2Proof/Machine/State.lean ====
section
/-! DEFINITION. Machine/State.lean: everything the spec gives the machine to hold (10_state.md R20 to R61), as plain
data, and its value after power-on. -/

namespace Sys2Proof.Machine

/-- A memory: the cells that differ from 0, in one canonical form (Machine/Memory.lean). An address that is not
listed reads as 0; for a memory whose power-on contents are OPEN (R53, R56, D10) that 0 is the model's choice
(assumption log 5). -/
abbrev Memory := List Host.Cell

/-- The CPU's one-entry interrupt latch (R29, R405). -/
inductive Pending where
  | none
  | reset
  | nmi
  | irq
  deriving DecidableEq, Repr

/-- Nametable mirroring, fixed by the cartridge (R10, R108). -/
inductive Mirroring where
  | horizontal
  | vertical
  | oneScreenA
  | oneScreenB
  | fourScreen
  deriving DecidableEq, Repr

/-- One of the eight entries of the sprite pipeline (R50). -/
structure SpriteEntry where
  /-- Low pattern plane. -/
  low : Byte
  /-- High pattern plane. -/
  high : Byte
  /-- Sprite palette, 2 bits. -/
  palette : BitVec 2
  /-- Priority: `true` = in front of the background. -/
  front : Bool
  /-- Picture column of the leftmost pixel. -/
  xPos : Byte
  /-- The entry holds sprite 0. -/
  isSpriteZero : Bool
  /-- The entry holds a sprite (D19). -/
  valid : Bool
  deriving DecidableEq, Repr

/-- The picture processing unit (R40 to R53). Status bits 4..0 are not used (R42), so Status is its three flags. -/
structure Ppu where
  /-- Register 0 (R40). -/
  ctrl : Byte
  /-- Register 1 (R41). -/
  mask : Byte
  /-- Status bit 7, the VBL flag (R42). -/
  vbl : Bool
  /-- Status bit 6, the sprite-0 hit flag (R42). -/
  sprite0Hit : Bool
  /-- Status bit 5, the sprite overflow flag (R42). -/
  overflow : Bool
  /-- The OAM address (R43). -/
  oamAddr : Byte
  /-- The current VRAM address (R44). -/
  v : VramAddr
  /-- The temporary VRAM address (R44). -/
  t : VramAddr
  /-- Fine-X (R44). -/
  fineX : BitVec 3
  /-- The write toggle; `false` = the next write to register 5 or 6 is the first (R44). -/
  w : Bool
  /-- The last-read buffer of register 7 (R44). -/
  readBuffer : Byte
  /-- Position: the scanline of the next dot, 0..261 (R45). -/
  scanline : Nat
  /-- Position: the next dot, 0..340 (R45). -/
  dot : Nat
  /-- Frame parity (R45). -/
  oddFrame : Bool
  /-- VBL suppressed for the frame that is starting (R52). -/
  suppressVbl : Bool
  /-- NMI suppressed for the frame that is starting (R52). -/
  suppressNmi : Bool
  /-- Nametable page A, offsets 0..0x3FF (R46). -/
  ntA : Memory
  /-- Nametable page B, offsets 0..0x3FF (R46). -/
  ntB : Memory
  /-- Palette RAM: 28 bytes, indices 0..0x1F without 0x10, 0x14, 0x18, 0x1C (R47, R109). -/
  palette : Memory
  /-- Sprite memory, 256 bytes (R48). -/
  oam : Memory
  /-- Secondary sprite memory, 32 bytes (R48). -/
  secOam : Memory
  /-- Low pattern plane of the last fetch batch (R49). -/
  latchLo : Byte
  /-- High pattern plane of the last fetch batch (R49). -/
  latchHi : Byte
  /-- Palette of the last fetch batch (R49). -/
  latchPal : BitVec 2
  /-- Shift register of the low tile plane (R49). -/
  bgLo : BitVec 16
  /-- Shift register of the high tile plane (R49). -/
  bgHi : BitVec 16
  /-- Shift register of palette bit 0 (R49). -/
  palLo : BitVec 16
  /-- Shift register of palette bit 1 (R49). -/
  palHi : BitVec 16
  /-- The sprite pipeline, eight entries (R50). -/
  sprites : List SpriteEntry
  /-- Sprite 0 is among the sprites evaluation found (R50). -/
  sprite0InRange : Bool
  /-- The scanline buffer, 256 palette indices (R51). -/
  scanlineBuffer : List PalIndex
  /-- The frame buffer, 240 rows of 256 colours (R51). -/
  frame : List (List Rgb)
  /-- The frame last handed to the video sink (R392): the model's record of the PPU's output. -/
  lastFrame : Option (List (List Rgb))
  /-- How many frames have been handed to the video sink (R392): the model's record of the PPU's output. -/
  framesOut : Nat
  deriving DecidableEq, Repr

/-- The cartridge: contents, configuration and bank maps (R10, R55). A bank is 1 KiB; byte `o` of bank `b` has the
key `1024 * b + o`. -/
structure Cartridge where
  /-- PRG ROM (R55). -/
  prgRom : Memory
  /-- `PRG_BANKS` (R10). -/
  prgBanks : Nat
  /-- PRG RAM, of which 8 KiB can be reached (R55, R88). -/
  prgRam : Memory
  /-- `PRG_RAM_SIZE` in bytes (R10). -/
  prgRamSize : Nat
  /-- CHR memory (R55). -/
  chr : Memory
  /-- `CHR_BANKS` (R10). -/
  chrBanks : Nat
  /-- `CHR_IS_RAM` (R10). -/
  chrIsRam : Bool
  /-- `MIRRORING` (R10). -/
  mirroring : Mirroring
  /-- `prgROMMap[0..31]` (R55). -/
  prgMap : List Nat
  /-- `chrMemMap[0..7]` (R55). -/
  chrMap : List Nat
  deriving DecidableEq, Repr

/-- The machine: CPU, internal RAM, PPU and cartridge. -/
structure State where
  /-- Accumulator (R20). -/
  a : Byte
  /-- Index register X (R20). -/
  x : Byte
  /-- Index register Y (R20). -/
  y : Byte
  /-- Stack pointer S (R20, R27). -/
  sp : Byte
  /-- Status register P: bits 7..0 = N V R B D I Z C (R24). -/
  p : Byte
  /-- Program counter (R22). -/
  pc : Addr
  /-- `OpCycles`, the cycle count of the last step (R28). -/
  opCycles : Nat
  /-- `pendingInterrupt` (R29). -/
  pending : Pending
  /-- Internal RAM, offsets 0..0x7FF (R56). -/
  ram : Memory
  /-- The picture processing unit. -/
  ppu : Ppu
  /-- The cartridge. -/
  cart : Cartridge
  /-- MODEL'S OWN: how many reads of a PPU register marked not readable there have been; the argument of the free
  value `Config.ppuWriteOnlyRead` (R333; assumption log 1). -/
  freeReads : Nat
  deriving DecidableEq, Repr

/-- Why a step can stop with a fault: never. "No behaviour is treated as `fault` or `stuck`: the machine has no
fault mechanism (rule R400) and no halt state (rule R435)" (93_implementation_defined.md). The type has no constructor, so
that no step can fault; there is nothing here that is safe or unsafe. -/
inductive Fault where
  deriving DecidableEq, Repr

/-- Why an instruction has no meaning. -/
inductive Refusal where
  /-- The instruction has no meaning in this model yet. Raised by `exec`'s rejected arms only, of which there is none
  left; safe. -/
  | notModelled (mnemonic : String)
  deriving DecidableEq, Repr

/-- What a meaning answers. -/
abbrev Out := Host.Outcome State Fault Refusal

/-- An entry of the sprite pipeline with every register 0 (R53). -/
def SpriteEntry.empty : SpriteEntry :=
  { low := 0, high := 0, palette := 0, front := false, xPos := 0, isSpriteZero := false, valid := false }

/-- The PPU after power-on (R53), its memories and buffers holding nothing but 0 (assumption log 5). -/
def Ppu.powerOn : Ppu :=
  { ctrl := 0, mask := 0, vbl := false, sprite0Hit := false, overflow := false, oamAddr := 0
    v := 0, t := 0, fineX := 0, w := false, readBuffer := 0
    scanline := 0, dot := 0, oddFrame := false, suppressVbl := false, suppressNmi := false
    ntA := [], ntB := [], palette := [], oam := [], secOam := []
    latchLo := 0, latchHi := 0, latchPal := 0, bgLo := 0, bgHi := 0, palLo := 0, palHi := 0
    sprites := List.replicate 8 SpriteEntry.empty, sprite0InRange := false
    scanlineBuffer := List.replicate 256 0
    frame := List.replicate 240 (List.replicate 256 0), lastFrame := none, framesOut := 0 }

/-- The cartridge of the reset state: 32 KiB of PRG ROM and 8 KiB of CHR ROM whose bytes are all 0, 8 KiB of PRG RAM,
horizontal mirroring, the maps at "identity modulo bank count" (R55). A program is loaded by putting another
cartridge in its place (assumption logs 6 and 7). -/
def Cartridge.blank : Cartridge :=
  { prgRom := [], prgBanks := 32, prgRam := [], prgRamSize := 8192, chr := [], chrBanks := 8, chrIsRam := false
    mirroring := .horizontal, prgMap := List.range 32, chrMap := List.range 8 }

/-- The machine after `Init` with the blank cartridge (R32, R61, R440). `PC` is the word at 0xFFFC, which the blank
cartridge reads as 0x0000. -/
def State.reset : State :=
  { a := 0x00, x := 0x00, y := 0x00, sp := 0xFF, p := 0x34, pc := 0x0000, opCycles := 7, pending := .none
    ram := [], ppu := Ppu.powerOn, cart := Cartridge.blank, freeReads := 0 }

end Sys2Proof.Machine
end

