-- ==== Sys2Proof/Machine/Memory.lean ====
section
/-! DEFINITION. Machine/Memory.lean: reading and writing one memory, and its canonical form. -/

namespace Sys2Proof.Machine

/-- What an address that is not listed reads as (assumption log 5). -/
def unlisted : Byte := 0

/-- Read the byte at a key. -/
def Memory.read : Memory → Nat → Byte
  | [], _ => unlisted
  | c :: m, a => if c.1 = a then c.2 else Memory.read m a

/-- Remove a key. -/
def Memory.erase (m : Memory) (a : Nat) : Memory := m.filter (fun c => c.1 != a)

/-- Put a cell in its place among rising keys. -/
def Memory.insert (a : Nat) (v : Byte) : Memory → Memory
  | [] => [(a, v)]
  | c :: m => if a < c.1 then (a, v) :: c :: m else c :: Memory.insert a v m

/-- Write the byte at a key; writing what an unlisted key reads as removes the entry. -/
def Memory.write (m : Memory) (a : Nat) (v : Byte) : Memory :=
  if v = unlisted then m.erase a else Memory.insert a v (m.erase a)

/-- The canonical form: keys strictly rising, and no cell holding what an unlisted key reads as. -/
def Memory.wf : Memory → Bool
  | [] => true
  | [c] => c.2 != unlisted
  | c :: d :: m => c.2 != unlisted && decide (c.1 < d.1) && Memory.wf (d :: m)

/-- Every key is below `n`. -/
def Memory.below (n : Nat) (m : Memory) : Bool := m.all (fun c => decide (c.1 < n))

end Sys2Proof.Machine
end

