-- ==== Sys2Proof/Machine/Cartridge.lean ====
section
/-! DEFINITION. Machine/Cartridge.lean: the mapper-0 address decoders (20_memory.md R87 to R90, 10_state.md R55). -/

namespace Sys2Proof.Machine

/-- The maps at "identity modulo bank count" (R55, R440). -/
def Cartridge.initMaps (c : Cartridge) : Cartridge :=
  { c with
    prgMap := (List.range 32).map (fun i => i % c.prgBanks)
    chrMap := (List.range 8).map (fun i => i % c.chrBanks) }

/-- The PRG ROM key of a CPU address in 0x8000..0xFFFF: the slot `(addr & 0x7FFF) >> 10` picks the bank, `addr & 0x3FF` the
byte (R88). -/
def Cartridge.prgKey (c : Cartridge) (addr : Addr) : Nat :=
  1024 * c.prgMap.getD (addr.toNat % 0x8000 / 1024) 0 + addr.toNat % 1024

/-- The CHR key of a PPU address in 0x0000..0x1FFF (R90). -/
def Cartridge.chrKey (c : Cartridge) (a : PpuAddr) : Nat :=
  1024 * c.chrMap.getD (a.toNat % 0x2000 / 1024) 0 + a.toNat % 1024

/-- `ReadPrg(addr)` (R88). -/
def Cartridge.readPrg (c : Cartridge) (addr : Addr) : Byte :=
  if addr.toNat < 0x6000 then 0
  else if addr.toNat < 0x8000 then c.prgRam.read (addr.toNat % 0x2000)
  else c.prgRom.read (c.prgKey addr)

/-- `WritePrg(addr, v)`: only PRG RAM is written (R89). -/
def Cartridge.writePrg (c : Cartridge) (addr : Addr) (v : Byte) : Cartridge :=
  if 0x6000 ≤ addr.toNat ∧ addr.toNat < 0x8000 then { c with prgRam := c.prgRam.write (addr.toNat % 0x2000) v } else c

/-- `ReadChr(addr)` (R90). -/
def Cartridge.readChr (c : Cartridge) (a : PpuAddr) : Byte := c.chr.read (c.chrKey a)

/-- `WriteChr(addr, v)`: no effect unless CHR is RAM (R90). -/
def Cartridge.writeChr (c : Cartridge) (a : PpuAddr) (v : Byte) : Cartridge :=
  if c.chrIsRam then { c with chr := c.chr.write (c.chrKey a) v } else c

end Sys2Proof.Machine
end

