-- ==== Sys2Proof/Machine/PpuMemory.lean ====
section
/-! DEFINITION. Machine/PpuMemory.lean: the PPU address space (20_memory.md R105 to R110) and the field accessors of the
PPU's registers (10_state.md R40, R41, R44). -/

namespace Sys2Proof.Machine

/-- Ctrl bit 7: the PPU requests NMI at VBL (R40). -/
def Ppu.nmiOnVbl (p : Ppu) : Bool := p.ctrl.getLsbD 7

/-- Ctrl bit 5: sprites are 8x16 (R40). -/
def Ppu.sprite8x16 (p : Ppu) : Bool := p.ctrl.getLsbD 5

/-- Ctrl bit 4: the background pattern table (R40). -/
def Ppu.bgTable (p : Ppu) : Nat := if p.ctrl.getLsbD 4 then 0x1000 else 0

/-- Ctrl bit 3: the pattern table of 8x8 sprites (R40). -/
def Ppu.spriteTable (p : Ppu) : Nat := if p.ctrl.getLsbD 3 then 0x1000 else 0

/-- Ctrl bit 2: the step of `v` after a register-7 access (R40, R332). -/
def Ppu.vramStep (p : Ppu) : VramAddr := if p.ctrl.getLsbD 2 then 32 else 1

/-- Mask bit 4 (R41). -/
def Ppu.spriteEnable (p : Ppu) : Bool := p.mask.getLsbD 4

/-- Mask bit 3 (R41). -/
def Ppu.bgEnable (p : Ppu) : Bool := p.mask.getLsbD 3

/-- "Rendering enabled" (R41, D17). -/
def Ppu.rendering (p : Ppu) : Bool := p.bgEnable || p.spriteEnable

/-- `v[4:0]` (R44). -/
def coarseX (v : VramAddr) : BitVec 5 := v.extractLsb' 0 5

/-- `v[9:5]` (R44). -/
def coarseY (v : VramAddr) : BitVec 5 := v.extractLsb' 5 5

/-- `v[11:10]` (R44). -/
def nametable (v : VramAddr) : BitVec 2 := v.extractLsb' 10 2

/-- `v[14:12]` (R44). -/
def fineY (v : VramAddr) : BitVec 3 := v.extractLsb' 12 3

/-- `palIndex(a)`: `a & 0x1F`, with 0x10, 0x14, 0x18, 0x1C folded onto 0x00, 0x04, 0x08, 0x0C (R109). -/
def palIndex (a : Nat) : Nat :=
  if a % 0x20 = 0x10 ∨ a % 0x20 = 0x14 ∨ a % 0x20 = 0x18 ∨ a % 0x20 = 0x1C then a % 0x10 else a % 0x20

/-- The nametable pages of R108. -/
inductive NtPage where
  | a
  | b
  | c
  | d
  deriving DecidableEq, Repr

/-- The page of quadrant `q = (a >> 10) & 3` (R108). -/
def ntPage (m : Mirroring) (q : Nat) : NtPage :=
  match m with
  | .horizontal => if q < 2 then .a else .b
  | .vertical => if q % 2 = 0 then .a else .b
  | .oneScreenA => .a
  | .oneScreenB => .b
  | .fourScreen => if q = 0 then .a else if q = 1 then .b else if q = 2 then .c else .d

/-- `ReadNameTable(a)`: pages C and D read 0 (R108); 0x3000 to 0x3EFF decode by the same bits (R110). -/
def readNametable (c : Cartridge) (p : Ppu) (a : PpuAddr) : Byte :=
  match ntPage c.mirroring (a.toNat / 1024 % 4) with
  | .a => p.ntA.read (a.toNat % 1024)
  | .b => p.ntB.read (a.toNat % 1024)
  | .c => 0
  | .d => 0

/-- `WriteNameTable(a, v)`: pages C and D ignore writes (R108). -/
def writeNametable (c : Cartridge) (p : Ppu) (a : PpuAddr) (v : Byte) : Ppu :=
  match ntPage c.mirroring (a.toNat / 1024 % 4) with
  | .a => { p with ntA := p.ntA.write (a.toNat % 1024) v }
  | .b => { p with ntB := p.ntB.write (a.toNat % 1024) v }
  | .c => p
  | .d => p

/-- `PpuRead(a)` (R105). -/
def ppuRead (c : Cartridge) (p : Ppu) (a : PpuAddr) : Byte :=
  if a.toNat < 0x2000 then c.readChr a
  else if a.toNat < 0x3F00 then readNametable c p a
  else p.palette.read (palIndex a.toNat)

/-- `PpuWrite(a, v)` (R106): the cartridge and the PPU after it. -/
def ppuWrite (c : Cartridge) (p : Ppu) (a : PpuAddr) (v : Byte) : Cartridge × Ppu :=
  if a.toNat < 0x2000 then (c.writeChr a v, p)
  else if a.toNat < 0x3F00 then (c, writeNametable c p a v)
  else (c, { p with palette := p.palette.write (palIndex a.toNat) v })

end Sys2Proof.Machine
end

