-- ==== Sys2Proof/Machine/PpuBackground.lean ====
section
/-! DEFINITION. Machine/PpuBackground.lean: the background pipeline (48_ppu_rendering.md R360 to R370). -/

namespace Sys2Proof.Machine

/-- Coarse-X increment with the horizontal nametable bit toggled on wrap (R368). -/
def incCoarseX (v : VramAddr) : VramAddr :=
  if coarseX v = 31 then (v &&& ~~~0x001F#15) ^^^ 0x0400#15 else v + 1

/-- Fine-Y increment, carrying into coarse-Y: 29 wraps and toggles the vertical nametable bit, 31 wraps without (R369, D25). -/
def incFineY (v : VramAddr) : VramAddr :=
  if fineY v = 7 then
    if coarseY v = 29 then (v &&& ~~~0x73E0#15) ^^^ 0x0800#15
    else if coarseY v = 31 then v &&& ~~~0x73E0#15
    else (v &&& ~~~0x7000#15) + 0x0020#15
  else v + 0x1000#15

/-- `v` with coarse-X and the horizontal nametable bit of `t` (R355, dot 256). -/
def reloadHorizontal (v t : VramAddr) : VramAddr := (v &&& 0x7BE0#15) ||| (t &&& 0x041F#15)

/-- `base = 0x2000 + 0x400 * nt(v)` (R363). -/
def ntBase (v : VramAddr) : Nat := 0x2000 + 0x400 * (nametable v).toNat

/-- The nametable address of a fetch batch (R363). -/
def tileAddr (v : VramAddr) : PpuAddr :=
  BitVec.ofNat 14 (ntBase v + 32 * (coarseY v).toNat + (coarseX v).toNat)

/-- The attribute address of a fetch batch (R363). -/
def attrAddr (v : VramAddr) : PpuAddr :=
  BitVec.ofNat 14 (ntBase v + 0x3C0 + 8 * ((coarseY v).toNat / 4) + (coarseX v).toNat / 4)

/-- Where the tile's quad lies in the attribute byte (R363). -/
def attrShift (v : VramAddr) : Nat := 2 * ((coarseX v).toNat % 4 / 2) + 4 * ((coarseY v).toNat % 4 / 2)

/-- The pattern address of a tile's low plane (R363). -/
def bgPatternAddr (p : Ppu) (tile : Byte) : PpuAddr :=
  BitVec.ofNat 14 (p.bgTable + 16 * tile.toNat + (fineY p.v).toNat)

/-- The fetch batch and the coarse-X increment (R363, R368). -/
def fetchBatch (c : Cartridge) (p : Ppu) : Ppu :=
  let tile := ppuRead c p (tileAddr p.v)
  let attr := ppuRead c p (attrAddr p.v)
  let pAddr := bgPatternAddr p tile
  { p with
    latchPal := (attr >>> attrShift p.v).setWidth 2
    latchLo := ppuRead c p pAddr
    latchHi := ppuRead c p (pAddr + 8)
    v := incCoarseX p.v }

/-- The high byte of a shift register replaced (R364). -/
def loadHigh (r : BitVec 16) (b : Byte) : BitVec 16 := b ++ r.extractLsb' 0 8

/-- A palette bit replicated eight times (R364). -/
def replicate8 (b : Bool) : Byte := if b then 0xFF else 0

/-- The reload from the latch into the high bytes (R364). -/
def reloadShifters (p : Ppu) : Ppu :=
  { p with
    bgLo := loadHigh p.bgLo (rev8 p.latchLo)
    bgHi := loadHigh p.bgHi (rev8 p.latchHi)
    palLo := loadHigh p.palLo (replicate8 (p.latchPal.getLsbD 0))
    palHi := loadHigh p.palHi (replicate8 (p.latchPal.getLsbD 1)) }

/-- The shift (R365). -/
def shiftShifters (p : Ppu) : Ppu :=
  { p with bgLo := p.bgLo >>> 1, bgHi := p.bgHi >>> 1, palLo := p.palLo >>> 1, palHi := p.palHi >>> 1 }

/-- `bgClipOn` (R370). -/
def Ppu.bgClipOn (p : Ppu) : Bool := p.mask.getLsbD 1 == bgClipActive

/-- Transparent collapse: 0x04, 0x08, 0x0C become 0x00 (R367). -/
def collapse (x : BitVec 4) : BitVec 4 := if x = 0x4 ∨ x = 0x8 ∨ x = 0xC then 0 else x

/-- The background pixel of the current dot, `palette:2 | pattern:2` (R361). -/
def bgPixel (p : Ppu) : BitVec 4 :=
  if p.bgEnable = false ∨ (p.bgClipOn = true ∧ p.dot ≤ 7) then 0
  else
    collapse (BitVec.ofBool (p.palHi.getLsbD p.fineX.toNat) ++ BitVec.ofBool (p.palLo.getLsbD p.fineX.toNat) ++
      BitVec.ofBool (p.bgHi.getLsbD p.fineX.toNat) ++ BitVec.ofBool (p.bgLo.getLsbD p.fineX.toNat))

/-- `bgTransparent`: the pattern bits are 0 (R361). -/
def bgTransparent (x : BitVec 4) : Bool := x.extractLsb' 0 2 == 0

end Sys2Proof.Machine
end

