-- ==== Sys2Proof/Machine/PpuRegisters.lean ====
section
/-! DEFINITION. Machine/PpuRegisters.lean: the interrupt requests (60_exceptions.md R401 to R404) and the eight PPU registers as
the CPU sees them (47_ppu_registers.md R310 to R336). -/

namespace Sys2Proof.Machine

/-- Replace the latch. -/
def State.setPending (s : State) (q : Pending) : State := { s with pending := q }

/-- Replace the PPU. -/
def State.setPpu (s : State) (p : Ppu) : State := { s with ppu := p }

/-- Replace the cartridge. -/
def State.setCart (s : State) (c : Cartridge) : State := { s with cart := c }

/-- Count one read of an unreadable PPU register. -/
def State.tickFree (s : State) : State := { s with freeReads := s.freeReads + 1 }

/-- What is pending after a RESET request (R401, R404). -/
def Pending.requestReset (_ : Pending) : Pending := .reset

/-- What is pending after an NMI request (R402, R404). -/
def Pending.requestNmi : Pending → Pending
  | .none => .nmi
  | .reset => .reset
  | .nmi => .nmi
  | .irq => .nmi

/-- What is pending after an IRQ request (R403, R404). -/
def Pending.requestIrq : Pending → Pending
  | .none => .irq
  | .reset => .reset
  | .nmi => .nmi
  | .irq => .irq

/-- `raiseNMI()`: the CPU's `NMI` request (R335, R402). -/
def raiseNmi (s : State) : State := s.setPending s.pending.requestNmi

/-- The byte a Status read returns (R320, R42). -/
def Ppu.statusByte (p : Ppu) : Byte :=
  BitVec.ofBool p.vbl ++ BitVec.ofBool p.sprite0Hit ++ BitVec.ofBool p.overflow ++ statusLowBits

/-- VBL suppression by a Status read at the current position (R321, D18). -/
def Ppu.suppress (p : Ppu) : Ppu :=
  if p.scanline = 0 ∧ p.dot = 0 then { p with suppressVbl := true, suppressNmi := true }
  else if p.scanline = 0 ∧ (p.dot = 1 ∨ p.dot = 2) then { p with suppressNmi := true }
  else p

/-- Register 2, Status, read (R320). -/
def readStatus (s : State) : Byte × State :=
  (s.ppu.statusByte, s.setPpu { s.ppu.suppress with vbl := false, w := false })

/-- Register 4, OAM Data, read (R318). -/
def readOamData (s : State) : Byte × State := (s.ppu.oam.read s.ppu.oamAddr.toNat, s)

/-- `v` moves on after a register-7 access (R332). -/
def Ppu.stepV (p : Ppu) : Ppu := { p with v := p.v + p.vramStep }

/-- `v & 0x3FFF` (R330, R331). -/
def Ppu.vAddr (p : Ppu) : PpuAddr := p.v.setWidth 14

/-- Register 7, VRAM Data, read (R331). -/
def readVramData (s : State) : Byte × State :=
  let a := s.ppu.vAddr
  if a.toNat < 0x3F00 then
    (s.ppu.readBuffer, s.setPpu { s.ppu with readBuffer := ppuRead s.cart s.ppu a }.stepV)
  else
    (ppuRead s.cart s.ppu a, s.setPpu { s.ppu with readBuffer := ppuRead s.cart s.ppu (a - 0x1000) }.stepV)

/-- Registers 0, 1, 3, 5, 6, read: a free value and no side effect on the PPU (R333). -/
def readUnreadable (s : State) : Byte × State := (Config.ppuWriteOnlyRead s.freeReads, s.tickFree)

/-- `ReadRegister(i)` (R311). -/
def readRegister (i : Nat) (s : State) : Byte × State :=
  if i = 2 then readStatus s
  else if i = 4 then readOamData s
  else if i = 7 then readVramData s
  else readUnreadable s

/-- Register 0, Ctrl, write (R313). -/
def writeCtrl (v : Byte) (s : State) : State :=
  let s1 := s.setPpu { s.ppu with
    ctrl := v
    t := (s.ppu.t &&& ~~~0x0C00#15) ||| ((v.setWidth 15 &&& 3#15) <<< 10) }
  if s.ppu.nmiOnVbl = false ∧ v.getLsbD 7 = true ∧ s.ppu.vbl = true then raiseNmi s1 else s1

/-- Register 1, Mask, write (R314). -/
def writeMask (v : Byte) (s : State) : State := s.setPpu { s.ppu with mask := v }

/-- Register 3, OAM Addr, write (R316). -/
def writeOamAddr (v : Byte) (s : State) : State := s.setPpu { s.ppu with oamAddr := v }

/-- Register 4, OAM Data, write (R317). -/
def writeOamData (v : Byte) (s : State) : State :=
  s.setPpu { s.ppu with oam := s.ppu.oam.write s.ppu.oamAddr.toNat v, oamAddr := s.ppu.oamAddr + 1 }

/-- Register 5, Scroll, write (R325). -/
def writeScroll (v : Byte) (s : State) : State :=
  let coarse : VramAddr := (v >>> 3).setWidth 15
  let fine : VramAddr := v.setWidth 15 &&& 7#15
  if s.ppu.w then
    s.setPpu { s.ppu with t := (s.ppu.t &&& ~~~0x73E0#15) ||| (fine <<< 12) ||| (coarse <<< 5), w := false }
  else
    s.setPpu { s.ppu with fineX := v.setWidth 3, t := (s.ppu.t &&& ~~~0x001F#15) ||| coarse, w := true }

/-- Register 6, VRAM Addr, write (R326). -/
def writeVramAddr (v : Byte) (s : State) : State :=
  if s.ppu.w then
    let t' : VramAddr := (s.ppu.t &&& 0x7F00#15) ||| v.setWidth 15
    s.setPpu { s.ppu with t := t', v := t', w := false }
  else
    s.setPpu { s.ppu with t := (s.ppu.t &&& 0x00FF#15) ||| ((v.setWidth 15 <<< 8) &&& 0x3F00#15), w := true }

/-- Register 7, VRAM Data, write (R330). -/
def writeVramData (v : Byte) (s : State) : State :=
  let r := ppuWrite s.cart s.ppu s.ppu.vAddr v
  (s.setCart r.1).setPpu r.2.stepV

/-- `WriteRegister(i, val)` (R312); a write to register 2, Status, has no effect (R315). -/
def writeRegister (i : Nat) (v : Byte) (s : State) : State :=
  if i = 0 then writeCtrl v s
  else if i = 1 then writeMask v s
  else if i = 2 then s
  else if i = 3 then writeOamAddr v s
  else if i = 4 then writeOamData v s
  else if i = 5 then writeScroll v s
  else if i = 6 then writeVramAddr v s
  else writeVramData v s

end Sys2Proof.Machine
end

