-- ==== Sys2Proof/Machine/PpuSprites.lean ====
section
/-! DEFINITION. Machine/PpuSprites.lean: sprite evaluation, fetch and pixels (48_ppu_rendering.md R375 to R388). -/

namespace Sys2Proof.Machine

/-- Every byte of secondary OAM 0xFF (R375). -/
def clearedSecOam : Memory := (List.range 32).map (fun i => (i, 0xFF#8))

/-- Secondary OAM cleared, sprite 0 forgotten (R375). -/
def clearSecOam (p : Ppu) : Ppu := { p with secOam := clearedSecOam, sprite0InRange := false }

/-- The sprite height, 8 or 16 (R376). -/
def spriteHeight (p : Ppu) : Nat := if p.sprite8x16 then 16 else 8

/-- The row, on the next scanline, of a sprite whose Y byte is `y`: `(scanline + 1) - FIRST - (y + 1)`, which may be
negative (R376, R377). -/
def spriteRow (p : Ppu) (y : Byte) : Int := (p.scanline + 1 : Int) - firstRenderScanline - (y.toNat + 1 : Int)

/-- Sprite `i` of OAM is in range for the next scanline (R376). -/
def spriteInRange (p : Ppu) (i : Nat) : Bool :=
  let fy := spriteRow p (p.oam.read (4 * i))
  decide (0 ≤ fy ∧ fy ≤ (spriteHeight p : Int) - 1)

/-- Entry `i` of OAM copied to slot `n` of secondary OAM (R376). -/
def copySprite (p : Ppu) (i n : Nat) : Ppu :=
  { p with
    secOam := (((p.secOam.write (4 * n) (p.oam.read (4 * i))).write (4 * n + 1) (p.oam.read (4 * i + 1))).write (4 * n + 2)
      (p.oam.read (4 * i + 2))).write (4 * n + 3) (p.oam.read (4 * i + 3))
    sprite0InRange := p.sprite0InRange || i == 0 }

/-- Evaluation of the last `k` sprites with `n` found before them: at most eight are copied, the ninth sets the overflow
flag and stops (R376). -/
def evaluateFrom : Nat → Nat → Ppu → Ppu
  | 0, _, p => p
  | k + 1, n, p =>
    if spriteInRange p (63 - k) then
      if n < 8 then evaluateFrom k (n + 1) (copySprite p (63 - k) n) else { p with overflow := true }
    else evaluateFrom k n p

/-- Evaluation of all 64 sprites (R376). -/
def evaluateSprites (p : Ppu) : Ppu := evaluateFrom 64 0 p

/-- The pattern address of row `fy` of a sprite (R377); an address outside the 14-bit space, which only a slot left from
another scanline can give, is reduced to 14 bits (assumption log 8). -/
def spritePatternAddr (p : Ppu) (tile : Byte) (fy : Int) : PpuAddr :=
  if p.sprite8x16 then
    let table : Int := if tile.getLsbD 0 then 0x1000 else 0
    let tl : Int := (tile &&& 0xFE#8).toNat
    if fy > 7 then BitVec.ofInt 14 (table + 16 * (tl + 1) + (fy - 8)) else BitVec.ofInt 14 (table + 16 * tl + fy)
  else BitVec.ofInt 14 ((p.spriteTable : Int) + 16 * tile.toNat + fy)

/-- Fetch of slot `k` of secondary OAM into entry `k`, which held `e` (R377). The dummy read of an empty slot has no
effect with mapper 0 and is left out (R380). -/
def fetchSprite (c : Cartridge) (p : Ppu) (k : Nat) (e : SpriteEntry) : SpriteEntry :=
  let y := p.secOam.read (4 * k)
  let tile := p.secOam.read (4 * k + 1)
  let attr := p.secOam.read (4 * k + 2)
  let x := p.secOam.read (4 * k + 3)
  if y = 0xFF ∧ tile = 0xFF ∧ attr = 0xFF ∧ x = 0xFF then { e with valid := false }
  else
    let fy := if attr.getLsbD 7 then (spriteHeight p : Int) - 1 - spriteRow p y else spriteRow p y
    let addr := spritePatternAddr p tile fy
    let lo := ppuRead c p addr
    let hi := ppuRead c p (addr + 8)
    { low := if attr.getLsbD 6 then rev8 lo else lo
      high := if attr.getLsbD 6 then rev8 hi else hi
      palette := attr.setWidth 2
      front := !attr.getLsbD 5
      xPos := x
      isSpriteZero := k == 0 && p.sprite0InRange
      valid := true }

/-- The fetch of the slots from `k` on (R377). -/
def fetchFrom (c : Cartridge) (p : Ppu) : Nat → List SpriteEntry → List SpriteEntry
  | _, [] => []
  | k, e :: es => fetchSprite c p k e :: fetchFrom c p (k + 1) es

/-- The fetch of all eight slots (R377). -/
def fetchSprites (c : Cartridge) (p : Ppu) : Ppu := { p with sprites := fetchFrom c p 0 p.sprites }

/-- `spriteClipOn` (R370, R388). -/
def Ppu.spriteClipOn (p : Ppu) : Bool := p.mask.getLsbD 2 == sprClipActive

/-- The pattern bits of an entry at picture column `d`; 0 where the entry has no pixel there (R385). -/
def spritePattern (e : SpriteEntry) (d : Nat) : BitVec 2 :=
  if e.valid = true ∧ e.xPos.toNat ≤ d ∧ d - e.xPos.toNat ≤ 7 then
    BitVec.ofBool (e.high.getLsbD (7 - (d - e.xPos.toNat))) ++ BitVec.ofBool (e.low.getLsbD (7 - (d - e.xPos.toNat)))
  else 0

/-- The first entry with a non-transparent pixel at column `d`, with its pattern bits (R385). -/
def firstOpaque (d : Nat) : List SpriteEntry → Option (SpriteEntry × BitVec 2)
  | [] => none
  | e :: es => if spritePattern e d ≠ 0 then some (e, spritePattern e d) else firstOpaque d es

/-- The winning sprite pixel of the current dot (R385, R388). -/
def spriteWinner (p : Ppu) : Option (SpriteEntry × BitVec 2) :=
  if p.spriteEnable = true ∧ ¬(p.spriteClipOn = true ∧ p.dot ≤ 7) then firstOpaque p.dot p.sprites else none

end Sys2Proof.Machine
end

