-- ==== Sys2Proof/Machine/PpuDot.lean ====
section
/-! DEFINITION. Machine/PpuDot.lean: one dot of the PPU in the order of R371, the timing grid, and frame output
(48_ppu_rendering.md R350 to R357, R371, R386, R387, R390 to R393). -/

namespace Sys2Proof.Machine

/-- The scanlines on which the pipelines run, 20..260 (R360). -/
def Ppu.pipelineLine (p : Ppu) : Bool := decide (20 ≤ p.scanline ∧ p.scanline ≤ 260)

/-- The visible scanlines, 21..260 (R360, R393). -/
def Ppu.visibleLine (p : Ppu) : Bool := decide (21 ≤ p.scanline ∧ p.scanline ≤ 260)

/-- The pipelines act at this dot: on scanlines 20..260, when rendering is enabled (R360). -/
def Ppu.active (p : Ppu) : Bool := p.pipelineLine && p.rendering

/-- The dots of the background fetch regions, 0..255 and 320..335 (R362). -/
def Ppu.fetchRegion (p : Ppu) : Bool := decide (p.dot ≤ 255 ∨ (320 ≤ p.dot ∧ p.dot ≤ 335))

/-- Scanline 0, dot 0: VBlank start (R352). -/
def vblankStart (p : Ppu) : Ppu :=
  { p with
    vbl := if p.suppressVbl then p.vbl else true
    oamAddr := 0
    sprites := p.sprites.map (fun e => { e with valid := false }) }

/-- The dot requests an NMI: scanline 0, dot 2, enabled and not suppressed (R353, R335). -/
def Ppu.requestsNmi (p : Ppu) : Bool :=
  decide (p.scanline = 0 ∧ p.dot = 2) && p.nmiOnVbl && !p.suppressNmi

/-- R371 step 1: the flag and reset actions (R352, R353, R354, R357). -/
def flagActions (p : Ppu) : Ppu :=
  if p.scanline = 0 ∧ p.dot = 0 then vblankStart p
  else if p.scanline = 0 ∧ p.dot = 2 then { p with suppressVbl := false, suppressNmi := false }
  else if p.scanline = 20 ∧ p.dot = 0 then { p with vbl := false, sprite0Hit := false, overflow := false }
  else if p.visibleLine = true ∧ p.dot = 0 then { p with scanlineBuffer := List.replicate 256 0 }
  else p

/-- R371 step 2: the sprite steps of dots 0, 64 and 260 (R375, R376, R377). -/
def spriteActions (c : Cartridge) (p : Ppu) : Ppu :=
  if p.active = true then
    if p.dot = 0 then clearSecOam p
    else if p.dot = 64 then evaluateSprites p
    else if p.dot = 260 then fetchSprites c p
    else p
  else p

/-- R371 step 3: the background reload at phase-offset 0 (R362, R364). -/
def reloadAction (p : Ppu) : Ppu :=
  if p.active = true ∧ p.fetchRegion = true ∧ p.dot % 8 = 0 then reloadShifters p else p

/-- The palette RAM index of a sprite pixel, `0x10 | palette4` (R386). -/
def spriteIndex (palette pat : BitVec 2) : PalIndex := 1#1 ++ palette ++ pat

/-- The multiplexer (R386). -/
def muxPixel (p : Ppu) (bg : BitVec 4) (win : Option (SpriteEntry × BitVec 2)) : PalIndex :=
  match win with
  | some (e, pat) =>
    if bgTransparent bg = true ∨ e.front = true ∨ p.bgEnable = false then spriteIndex e.palette pat else 0#1 ++ bg
  | none => 0#1 ++ bg

/-- The current dot hits sprite 0 (R387). -/
def hitsSprite0 (p : Ppu) (bg : BitVec 4) (win : Option (SpriteEntry × BitVec 2)) : Bool :=
  match win with
  | some (e, _) => e.isSpriteZero && p.bgEnable && p.spriteEnable && !bgTransparent bg && decide (p.dot ≤ 254)
  | none => false

/-- R371 step 4: the pixel of a visible dot (R361, R385, R386, R387). -/
def pixelAction (p : Ppu) : Ppu :=
  if p.visibleLine = true ∧ p.dot ≤ 255 then
    let bg := bgPixel p
    let win := spriteWinner p
    { p with
      scanlineBuffer := p.scanlineBuffer.set p.dot (muxPixel p bg win)
      sprite0Hit := p.sprite0Hit || hitsSprite0 p bg win }
  else p

/-- R371 step 5: the shift (R365). -/
def shiftAction (p : Ppu) : Ppu :=
  if p.active = true ∧ p.fetchRegion = true then shiftShifters p else p

/-- R371 step 6: the fetch batch at phase-offset 7 (R362, R363, R368). -/
def fetchAction (c : Cartridge) (p : Ppu) : Ppu :=
  if p.active = true ∧ p.fetchRegion = true ∧ p.dot % 8 = 7 then fetchBatch c p else p

/-- The colour behind a palette RAM index (R390). -/
def colourOf (p : Ppu) (x : PalIndex) : Rgb := Config.paletteRgb ((p.palette.read (palIndex x.toNat)).setWidth 6)

/-- The scanline buffer becomes row `scanline - 21` of the frame (R390). -/
def outputRow (p : Ppu) : Ppu :=
  { p with frame := p.frame.set (p.scanline - firstRenderScanline) (p.scanlineBuffer.map (colourOf p)) }

/-- The frame is handed to the video sink (R392). -/
def deliverFrame (p : Ppu) : Ppu := { p with lastFrame := some p.frame, framesOut := p.framesOut + 1 }

/-- The end of the visible dots, dot 256: fine-Y increment and horizontal reload, if rendering, then scanline output on a
visible scanline (R355, R369, R390). -/
def dot256 (p : Ppu) : Ppu :=
  let q := if p.active = true then { p with v := reloadHorizontal (incFineY p.v) p.t } else p
  if q.visibleLine = true then outputRow q else q

/-- R371 step 7: the actions of dots 256 and 303 and of the last dot of scanline 260 (R355, R369, R390, R392). -/
def lateActions (p : Ppu) : Ppu :=
  if p.dot = 256 then dot256 p
  else if p.scanline = 20 ∧ p.dot = 303 ∧ p.rendering = true then { p with v := p.t }
  else if p.scanline = 260 ∧ p.dot = 340 then deliverFrame p
  else p

/-- The length of the current scanline: 340 dots for scanline 20 of an odd frame with background rendering, else 341 (R351). -/
def Ppu.lineLength (p : Ppu) : Nat :=
  if p.scanline = 20 ∧ p.oddFrame = true ∧ p.bgEnable = true then 340 else 341

/-- The position moves on by one dot (R351). -/
def advanceDot (p : Ppu) : Ppu :=
  if p.dot + 1 < p.lineLength then { p with dot := p.dot + 1 }
  else if p.scanline + 1 = 262 then { p with dot := 0, scanline := 0, oddFrame := !p.oddFrame }
  else { p with dot := 0, scanline := p.scanline + 1 }

/-- The actions of one dot, in the order of R371. -/
def dotActions (c : Cartridge) (p : Ppu) : Ppu :=
  lateActions (fetchAction c (shiftAction (pixelAction (reloadAction (spriteActions c (flagActions p))))))

/-- `ExecuteDot()` (R351): the actions, the NMI request, and the move to the next position. -/
def executeDot (s : State) : State :=
  let s1 := s.setPpu (advanceDot (dotActions s.cart s.ppu))
  if s.ppu.requestsNmi = true then raiseNmi s1 else s1

/-- `ExecuteCycles(n)` (R350). -/
def executeCycles : Nat → State → State
  | 0, s => s
  | n + 1, s => executeCycles n (executeDot s)

end Sys2Proof.Machine
end

