-- ==== Sys2Proof/Machine/Ops.lean ====
section
/-! DEFINITION. Machine/Ops.lean: the named operations over registers and memory: the CPU bus (20_memory.md R70 to R89), OAM
DMA (R78), the stack (10_state.md R27), interrupt entry and return (60_exceptions.md R410 to R425), power-on and reset
(70_reset_and_hazards.md R440 to R442). -/

namespace Sys2Proof.Machine

/-- `A <- v`. -/
def State.setA (s : State) (v : Byte) : State := { s with a := v }

/-- `X <- v`. -/
def State.setX (s : State) (v : Byte) : State := { s with x := v }

/-- `Y <- v`. -/
def State.setY (s : State) (v : Byte) : State := { s with y := v }

/-- `S <- v`. -/
def State.setSp (s : State) (v : Byte) : State := { s with sp := v }

/-- `P <- v`. -/
def State.setP (s : State) (v : Byte) : State := { s with p := v }

/-- `PC <- v`. -/
def State.setPc (s : State) (v : Addr) : State := { s with pc := v }

/-- `OpCycles <- n`. -/
def State.setCycles (s : State) (n : Nat) : State := { s with opCycles := n }

/-- Replace the internal RAM. -/
def State.setRam (s : State) (m : Memory) : State := { s with ram := m }

/-- `OpCycles <- OpCycles + n` (R164 to R166). -/
def State.addCycles (s : State) (n : Nat) : State := s.setCycles (s.opCycles + n)

/-- `OpCycles <- BASE[op]` (R160, R162). -/
def State.credit (s : State) (op : Byte) : State := s.setCycles (baseCycles op)

/-- The offset of a CPU address in internal RAM, `addr & 0x7FF` (R72). -/
def ramKey (addr : Addr) : Nat := addr.toNat % 0x800

/-- The PPU register of a CPU address, `addr & 7` (R73). -/
def regIndex (addr : Addr) : Nat := addr.toNat % 8

/-- `MemRead(addr)`: the byte and the state after the read's side effects (R70). -/
def busRead (addr : Addr) (s : State) : Byte × State :=
  if addr.toNat < 0x2000 then (s.ram.read (ramKey addr), s)
  else if addr.toNat < 0x4000 then readRegister (regIndex addr) s
  else if addr.toNat < 0x4020 then (0, s)
  else (s.cart.readPrg addr, s)

/-- `MemRead16` from two addresses, the low byte first (R80). -/
def busRead16 (lo hi : Addr) (s : State) : Addr × State :=
  let r1 := busRead lo s
  let r2 := busRead hi r1.2
  (word16 r2.1 r1.1, r2.2)

/-- The transfer of OAM DMA: `n` more bytes, from `addr` on, each read through the bus and written to PPU register 4 (R78). -/
def dmaTransfer : Nat → Addr → State → State
  | 0, _, s => s
  | n + 1, addr, s =>
    let r := busRead addr s
    dmaTransfer n (addr + 1) (writeRegister 4 r.1 r.2)

/-- `MemWrite(addr, v)`: the extra cycles and the state after the write (R71). -/
def busWrite (addr : Addr) (v : Byte) (s : State) : Nat × State :=
  if addr.toNat < 0x2000 then (0, s.setRam (s.ram.write (ramKey addr) v))
  else if addr.toNat < 0x4000 then (0, writeRegister (regIndex addr) v s)
  else if addr.toNat = 0x4014 then (dmaCycles, dmaTransfer 256 (word16 v 0) s)
  else if addr.toNat < 0x4020 then (0, s)
  else (0, s.setCart (s.cart.writePrg addr v))

/-- A write whose extra cycles are added to `OpCycles` (R79, R166). -/
def store (addr : Addr) (v : Byte) (s : State) : State :=
  let r := busWrite addr v s
  r.2.addCycles r.1

/-- `Push(v)` (R27). -/
def push (v : Byte) (s : State) : State := (store (stackAddr s.sp) v s).setSp (s.sp - 1)

/-- `Pop()` (R27). -/
def pop (s : State) : Byte × State := busRead (stackAddr (s.sp + 1)) (s.setSp (s.sp + 1))

/-- Two pushes, high byte first (R243, R245, R415). -/
def pushWord (hi lo : Byte) (s : State) : State := push lo (push hi s)

/-- Two pops, low byte first (R244, R246). -/
def popWord (s : State) : Addr × State :=
  let r1 := pop s
  let r2 := pop r1.2
  (word16 r2.1 r1.1, r2.2)

/-- Entry through a vector: push PCH, the given PCL and the given copy of P, then `PC` from the vector (R412, R413, R245, R415,
R416). Shared by NMI, IRQ and BRK. -/
def enterVector (pcl status : Byte) (vector : Addr) (s : State) : State :=
  let r := busRead16 vector (vector + 1) (push status (pushWord (hiByte s.pc) pcl s))
  r.2.setPc r.1

/-- `P` as PLP and RTI load it: `(v & 0xEF) | 0x20` (R188, R246). -/
def pulledStatus (v : Byte) : Byte := (v &&& 0xEF#8) ||| 0x20#8

/-- Return from an entry: pop P, then PCL, then PCH (R246, R425). -/
def returnFromVector (s : State) : State :=
  let r1 := pop s
  let r2 := popWord (r1.2.setP (pulledStatus r1.1))
  r2.2.setPc r2.1

/-- A serviced interrupt has cost 7 cycles and left the latch (R410). -/
def State.serviced (s : State) : State := (s.setCycles serviceCycles).setPending .none

/-- RESET service (R411). -/
def serviceReset (s : State) : State :=
  let r := busRead16 0xFFFC 0xFFFD (((((s.setA 0).setX 0).setY 0).setSp 0xFF).setP 0x22)
  (r.2.setPc r.1).serviced

/-- NMI service: PCL is pushed masked; B is clear in the pushed P; D is cleared (R412). -/
def serviceNmi (s : State) : State :=
  let s1 := enterVector (loByte s.pc &&& nmiPclPushMask) (s.p &&& 0xEF#8) 0xFFFA s
  (s1.setP (putBit s1.p 3 false)).serviced

/-- IRQ service with I clear: B is clear in the pushed P; D is cleared and I set (R413). -/
def serviceIrq (s : State) : State :=
  let s1 := enterVector (loByte s.pc) (s.p &&& 0xEF#8) 0xFFFE s
  (s1.setP (putBit (putBit s1.p 3 false) 2 true)).serviced

/-- What becomes of an IRQ found masked: kept or dropped, a free choice (R413). -/
def maskedIrq (s : State) : State := s.setPending (if Config.irqMaskedKeep then .irq else .none)

/-- What a step begins with (R160, R410): `true` with the state after the service, or `false` with the state in which an
instruction is to be executed. -/
def servicePending (s : State) : Bool × State :=
  match s.pending with
  | .none => (false, s)
  | .reset => (true, serviceReset s)
  | .nmi => (true, serviceNmi s)
  | .irq => if s.p.getLsbD 2 then (false, maskedIrq s) else (true, serviceIrq s)

/-- The byte at `PC`, with `PC` moved past it (R22, R160). -/
def fetchByte (s : State) : Byte × State :=
  let r := busRead s.pc s
  (r.1, r.2.setPc (r.2.pc + 1))

/-- `n` bytes at `PC`, in order (R150). -/
def fetchBytes : Nat → State → List Byte × State
  | 0, s => ([], s)
  | n + 1, s =>
    let r := fetchByte s
    let rs := fetchBytes n r.2
    (r.1 :: rs.1, rs.2)

/-- The instruction at `PC` and the state after its bytes are read, `PC` past them (R120, R150, R160). -/
def fetchInstr (s : State) : Instr × State :=
  let r := fetchByte s
  let rs := fetchBytes (operandCount r.1) r.2
  (decodeOpcode r.1 (rs.1.getD 0 0) (rs.1.getD 1 0), rs.2)

/-- After a CPU step the PPU runs three dots for each cycle of it (R100). -/
def catchUp (s : State) : State := executeCycles (dotsPerCycle * s.opCycles) s

/-- PPU registers, position, latches, pipelines and flags as after `Init` and `Reset`; memories and buffers keep their
contents (R53, R61). -/
def Ppu.reinit (p : Ppu) : Ppu :=
  { Ppu.powerOn with
    ntA := p.ntA, ntB := p.ntB, palette := p.palette, oam := p.oam, secOam := p.secOam
    scanlineBuffer := p.scanlineBuffer, frame := p.frame, lastFrame := p.lastFrame, framesOut := p.framesOut }

/-- `Init`, power-on (R32, R440): the maps, the PPU and the CPU are initialised, over whatever the memories hold. -/
def initMachine (s : State) : State :=
  let s1 := (s.setCart s.cart.initMaps).setPpu s.ppu.reinit
  let s2 := ((((s1.setA 0).setX 0).setY 0).setSp 0xFF).setP 0x34
  let r := busRead16 0xFFFC 0xFFFD s2
  let s3 := ((r.2.setPc r.1).setCycles serviceCycles).setPending .none
  if initPpuCatchup then executeCycles (dotsPerCycle * serviceCycles) s3 else s3

/-- The console's `Reset` (R442): the PPU at once, the CPU by a RESET request. -/
def consoleReset (s : State) : State := (s.setPpu s.ppu.reinit).setPending s.pending.requestReset

/-- The CPU's `IRQ` request (R403). -/
def requestIrq (s : State) : State := s.setPending s.pending.requestIrq

/-- The step can fetch a byte that is stored at this address: internal RAM, PRG RAM or PRG ROM. -/
def holdsCode (addr : Addr) : Bool := decide (addr.toNat < 0x2000 ∨ 0x6000 ≤ addr.toNat)

/-- Put a byte where a fetch at `addr` reads it, PRG ROM included: the loader's act, not a CPU write. -/
def placeByte (addr : Addr) (v : Byte) (s : State) : State :=
  if addr.toNat < 0x2000 then s.setRam (s.ram.write (ramKey addr) v)
  else if addr.toNat < 0x8000 then s.setCart { s.cart with prgRam := s.cart.prgRam.write (addr.toNat % 0x2000) v }
  else s.setCart { s.cart with prgRom := s.cart.prgRom.write (s.cart.prgKey addr) v }

/-- The three bytes placed at `PC`, with nothing pending; where one of those addresses holds no memory, `PC` is 0 first. -/
def placeAtPc (b0 b1 b2 : Byte) (s : State) : State :=
  let at0 := if holdsCode s.pc = true ∧ holdsCode (s.pc + 1) = true ∧ holdsCode (s.pc + 2) = true then s.pc else 0
  placeByte (at0 + 2) b2 (placeByte (at0 + 1) b1 (placeByte at0 b0 ((s.setPc at0).setPending .none)))

end Sys2Proof.Machine
end

