-- ==== Sys2Proof/Machine/Flags.lean ====
section
/-! DEFINITION. Machine/Flags.lean: the flags of P (10_state.md R24) and every flag computation of the instruction rules. -/

namespace Sys2Proof.Machine

/-- Carry (bit 0). -/
def flagC (p : Byte) : Bool := p.getLsbD 0

/-- Zero (bit 1). -/
def flagZ (p : Byte) : Bool := p.getLsbD 1

/-- IRQ disable (bit 2). -/
def flagI (p : Byte) : Bool := p.getLsbD 2

/-- Decimal (bit 3). -/
def flagD (p : Byte) : Bool := p.getLsbD 3

/-- Break (bit 4). -/
def flagB (p : Byte) : Bool := p.getLsbD 4

/-- Bit 5, always 1 (R25). -/
def flagR (p : Byte) : Bool := p.getLsbD 5

/-- Overflow (bit 6). -/
def flagV (p : Byte) : Bool := p.getLsbD 6

/-- Negative (bit 7). -/
def flagN (p : Byte) : Bool := p.getLsbD 7

/-- `P.C <- b`. -/
def putC (p : Byte) (b : Bool) : Byte := putBit p 0 b

/-- `P.Z <- b`. -/
def putZ (p : Byte) (b : Bool) : Byte := putBit p 1 b

/-- `P.I <- b`. -/
def putI (p : Byte) (b : Bool) : Byte := putBit p 2 b

/-- `P.D <- b`. -/
def putD (p : Byte) (b : Bool) : Byte := putBit p 3 b

/-- `P.V <- b`. -/
def putV (p : Byte) (b : Bool) : Byte := putBit p 6 b

/-- `P.N <- b`. -/
def putN (p : Byte) (b : Bool) : Byte := putBit p 7 b

/-- `SetNZ(v)`: `P.N <- v[7]; P.Z <- (v == 0)` (R14). -/
def setNZ (v p : Byte) : Byte := putZ (putN p (v.getLsbD 7)) (v == 0)

/-- `A + M + P.C` as an integer (R201). -/
def adcSum (a m p : Byte) : Nat := a.toNat + m.toNat + (flagC p).toNat

/-- The result byte of ADC (R201). -/
def adcResult (a m p : Byte) : Byte := BitVec.ofNat 8 (adcSum a m p)

/-- The flags of ADC (R201). -/
def adcFlags (a m p : Byte) : Byte :=
  let r := adcResult a m p
  putV (putC (setNZ r p) (decide (adcSum a m p > 0xFF))) (((a ^^^ r) &&& ~~~(a ^^^ m) &&& 0x80#8) != 0)

/-- `A - M - (1 - P.C)` as an integer (R202). -/
def sbcDiff (a m p : Byte) : Int := (a.toNat : Int) - m.toNat - (1 - ((flagC p).toNat : Int))

/-- The result byte of SBC (R202). -/
def sbcResult (a m p : Byte) : Byte := BitVec.ofInt 8 (sbcDiff a m p)

/-- The flags of SBC (R202). -/
def sbcFlags (a m p : Byte) : Byte :=
  let r := sbcResult a m p
  putV (putC (setNZ r p) (decide (0 ≤ sbcDiff a m p))) (((a ^^^ m) &&& (a ^^^ r) &&& 0x80#8) != 0)

/-- The flags of a compare of register `r` with `m` (R207). -/
def compareFlags (r m p : Byte) : Byte := putC (setNZ (r - m) p) (decide (m.toNat ≤ r.toNat))

/-- The flags of BIT: Z from the AND, N and V from the memory byte (R206). -/
def bitFlags (a m p : Byte) : Byte := putV (putN (putZ p ((a &&& m) == 0)) (m.getLsbD 7)) (m.getLsbD 6)

/-- ASL: the result and P with the carry out (R221). -/
def shiftLeft (m p : Byte) : Byte × Byte := (m <<< 1, putC p (m.getLsbD 7))

/-- LSR: the result and P with the carry out (R222). -/
def shiftRight (m p : Byte) : Byte × Byte := (m >>> 1, putC p (m.getLsbD 0))

/-- ROL: the carry enters at bit 0 and bit 7 becomes the carry (R223). -/
def rotateLeft (m p : Byte) : Byte × Byte := (putBit (m <<< 1) 0 (flagC p), putC p (m.getLsbD 7))

/-- ROR: the carry enters at bit 7 and bit 0 becomes the carry (R224). -/
def rotateRight (m p : Byte) : Byte × Byte := (putBit (m >>> 1) 7 (flagC p), putC p (m.getLsbD 0))

/-- INC: the carry is untouched (R225). -/
def increment (m p : Byte) : Byte × Byte := (m + 1, p)

/-- DEC: the carry is untouched (R226). -/
def decrement (m p : Byte) : Byte × Byte := (m - 1, p)

end Sys2Proof.Machine
end

