-- ==== Sys2Proof/Machine/Operands.lean ====
section
/-! DEFINITION. Machine/Operands.lean: the thirteen address calculators and the operand helpers (40_addressing_modes.md R150
to R167). The operand bytes have been fetched with the instruction, so a calculator starts with `PC` past them. -/

namespace Sys2Proof.Machine

/-- What an address calculator returns (R150): an effective address (none for IMPL and ACC), and whether indexing or a
relative target crosses a page. -/
structure EffAddr where
  ea : Option Addr
  crossed : Bool
  deriving DecidableEq, Repr

/-- The address calculators (R151 to R161), reading pointer bytes through the bus. -/
def effAddr (o : Operand) (s : State) : EffAddr × State :=
  match o with
  | .impl => (⟨none, false⟩, s)
  | .acc => (⟨none, false⟩, s)
  | .imm _ => (⟨some (s.pc - 1), false⟩, s)
  | .zp a => (⟨some (zeroPage a), false⟩, s)
  | .zpx a => (⟨some (zeroPage (a + s.x)), false⟩, s)
  | .zpy a => (⟨some (zeroPage (a + s.y)), false⟩, s)
  | .rel d => (⟨some (s.pc + sext8 d), pageCrossed s.pc (s.pc + sext8 d)⟩, s)
  | .abs a => (⟨some a, false⟩, s)
  | .absx a => (⟨some (a + s.x.setWidth 16), pageCrossed a (a + s.x.setWidth 16)⟩, s)
  | .absy a => (⟨some (a + s.y.setWidth 16), pageCrossed a (a + s.y.setWidth 16)⟩, s)
  | .ind a =>
    let r := busRead16 a (word16 (hiByte a) (loByte a + 1)) s
    (⟨some r.1, false⟩, r.2)
  | .indx a =>
    let r := busRead16 (zeroPage (a + s.x)) (zeroPage (a + s.x + 1)) s
    (⟨some r.1, false⟩, r.2)
  | .indy a =>
    let r := busRead16 (zeroPage a) (zeroPage (a + 1)) s
    (⟨some (r.1 + s.y.setWidth 16), pageCrossed r.1 (r.1 + s.y.setWidth 16)⟩, r.2)

/-- `LoadOperand()` (R163): the byte at the effective address, or A in mode ACC. The byte of an immediate has already been
read, with the instruction (R152). -/
def loadOperand (o : Operand) (k : EffAddr) (s : State) : Byte × State :=
  match o, k.ea with
  | .imm v, _ => (v, s)
  | _, some a => busRead a s
  | _, none => (s.a, s)

/-- `StoreOperand(v)` (R163): at the effective address, or to A in mode ACC. -/
def storeOperand (k : EffAddr) (v : Byte) (s : State) : State :=
  match k.ea with
  | some a => store a v s
  | none => s.setA v

/-- The operand of a read-type instruction, with its page-crossing cycle (R163, R164). -/
def readOperand (o : Operand) (s : State) : Byte × State :=
  let k := effAddr o s
  loadOperand o k.1 (k.2.addCycles k.1.crossed.toNat)

/-- A store: one write at the effective address, which is not read, and no page-crossing cycle (R163, R164). -/
def writeOperand (o : Operand) (v : Byte) (s : State) : State :=
  let k := effAddr o s
  storeOperand k.1 v k.2

/-- A read-modify-write: one read and one write of the same effective address (R82, R163, R220). `f` gives the new byte and
P with the carry out; the answer is the new byte and the state. -/
def modifyOperand (f : Byte → Byte → Byte × Byte) (o : Operand) (s : State) : Byte × State :=
  let k := effAddr o s
  let m := loadOperand o k.1 k.2
  let r := f m.1 m.2.p
  (r.1, storeOperand k.1 r.1 (m.2.setP r.2))

/-- The target of a jump (R241, R242). -/
def jumpTarget (o : Operand) (s : State) : State :=
  let k := effAddr o s
  match k.1.ea with
  | some a => k.2.setPc a
  | none => k.2

/-- The common rule of the branches (R250), with `PC` the address of the next instruction. -/
def branchIf (taken : Bool) (d : Byte) (s : State) : State :=
  if taken then jumpTarget (.rel d) (s.addCycles (if (effAddr (.rel d) s).1.crossed then 2 else 1)) else s

end Sys2Proof.Machine
end

