-- ==== Sys2Proof/Machine/Arithmetic.lean ====
section
/-! DEFINITION. Machine/Arithmetic.lean: arithmetic, logic, bit test and compare instructions (42_alu_logic_compare.md R200 to
R211). Decimal mode does not exist: P.D is never read (R211). -/

namespace Sys2Proof.Machine

/-- The ADC computation with operand `m` (R201). -/
def addToA (m : Byte) (s : State) : State := (s.setA (adcResult s.a m s.p)).setP (adcFlags s.a m s.p)

/-- The SBC computation with operand `m` (R202). -/
def subFromA (m : Byte) (s : State) : State := (s.setA (sbcResult s.a m s.p)).setP (sbcFlags s.a m s.p)

/-- `A <- v; SetNZ(A)`. -/
def logicToA (v : Byte) (s : State) : State := (s.setA v).setP (setNZ v s.p)

/-- ADC (R201). -/
def opAdc (o : Operand) (s : State) : State :=
  let r := readOperand o s
  addToA r.1 r.2

/-- ADC, (indirect,X) (0x61, R201). -/
def execAdcIndx (a : Byte) (s : State) : Out := .next (opAdc (.indx a) (s.credit 0x61))

/-- ADC, zero page (0x65, R201). -/
def execAdcZp (a : Byte) (s : State) : Out := .next (opAdc (.zp a) (s.credit 0x65))

/-- ADC, immediate (0x69, R201). -/
def execAdcImm (v : Byte) (s : State) : Out := .next (opAdc (.imm v) (s.credit 0x69))

/-- ADC, absolute (0x6D, R201). -/
def execAdcAbs (a : Addr) (s : State) : Out := .next (opAdc (.abs a) (s.credit 0x6D))

/-- ADC, (indirect),Y (0x71, R201). -/
def execAdcIndy (a : Byte) (s : State) : Out := .next (opAdc (.indy a) (s.credit 0x71))

/-- ADC, zero page,X (0x75, R201). -/
def execAdcZpx (a : Byte) (s : State) : Out := .next (opAdc (.zpx a) (s.credit 0x75))

/-- ADC, absolute,Y (0x79, R201). -/
def execAdcAbsy (a : Addr) (s : State) : Out := .next (opAdc (.absy a) (s.credit 0x79))

/-- ADC, absolute,X (0x7D, R201). -/
def execAdcAbsx (a : Addr) (s : State) : Out := .next (opAdc (.absx a) (s.credit 0x7D))

/-- SBC (R202). -/
def opSbc (o : Operand) (s : State) : State :=
  let r := readOperand o s
  subFromA r.1 r.2

/-- SBC, (indirect,X) (0xE1, R202). -/
def execSbcIndx (a : Byte) (s : State) : Out := .next (opSbc (.indx a) (s.credit 0xE1))

/-- SBC, zero page (0xE5, R202). -/
def execSbcZp (a : Byte) (s : State) : Out := .next (opSbc (.zp a) (s.credit 0xE5))

/-- SBC, immediate (0xE9, R202). -/
def execSbcImm (v : Byte) (s : State) : Out := .next (opSbc (.imm v) (s.credit 0xE9))

/-- SBC, absolute (0xED, R202). -/
def execSbcAbs (a : Addr) (s : State) : Out := .next (opSbc (.abs a) (s.credit 0xED))

/-- SBC, (indirect),Y (0xF1, R202). -/
def execSbcIndy (a : Byte) (s : State) : Out := .next (opSbc (.indy a) (s.credit 0xF1))

/-- SBC, zero page,X (0xF5, R202). -/
def execSbcZpx (a : Byte) (s : State) : Out := .next (opSbc (.zpx a) (s.credit 0xF5))

/-- SBC, absolute,Y (0xF9, R202). -/
def execSbcAbsy (a : Addr) (s : State) : Out := .next (opSbc (.absy a) (s.credit 0xF9))

/-- SBC, absolute,X (0xFD, R202). -/
def execSbcAbsx (a : Addr) (s : State) : Out := .next (opSbc (.absx a) (s.credit 0xFD))

/-- `A <- A & LoadOperand(); SetNZ(A)` (R203). -/
def opAnd (o : Operand) (s : State) : State :=
  let r := readOperand o s
  logicToA (r.2.a &&& r.1) r.2

/-- AND, (indirect,X) (0x21, R203). -/
def execAndIndx (a : Byte) (s : State) : Out := .next (opAnd (.indx a) (s.credit 0x21))

/-- AND, zero page (0x25, R203). -/
def execAndZp (a : Byte) (s : State) : Out := .next (opAnd (.zp a) (s.credit 0x25))

/-- AND, immediate (0x29, R203). -/
def execAndImm (v : Byte) (s : State) : Out := .next (opAnd (.imm v) (s.credit 0x29))

/-- AND, absolute (0x2D, R203). -/
def execAndAbs (a : Addr) (s : State) : Out := .next (opAnd (.abs a) (s.credit 0x2D))

/-- AND, (indirect),Y (0x31, R203). -/
def execAndIndy (a : Byte) (s : State) : Out := .next (opAnd (.indy a) (s.credit 0x31))

/-- AND, zero page,X (0x35, R203). -/
def execAndZpx (a : Byte) (s : State) : Out := .next (opAnd (.zpx a) (s.credit 0x35))

/-- AND, absolute,Y (0x39, R203). -/
def execAndAbsy (a : Addr) (s : State) : Out := .next (opAnd (.absy a) (s.credit 0x39))

/-- AND, absolute,X (0x3D, R203). -/
def execAndAbsx (a : Addr) (s : State) : Out := .next (opAnd (.absx a) (s.credit 0x3D))

/-- `A <- A | LoadOperand(); SetNZ(A)` (R204). -/
def opOra (o : Operand) (s : State) : State :=
  let r := readOperand o s
  logicToA (r.2.a ||| r.1) r.2

/-- ORA, (indirect,X) (0x01, R204). -/
def execOraIndx (a : Byte) (s : State) : Out := .next (opOra (.indx a) (s.credit 0x01))

/-- ORA, zero page (0x05, R204). -/
def execOraZp (a : Byte) (s : State) : Out := .next (opOra (.zp a) (s.credit 0x05))

/-- ORA, immediate (0x09, R204). -/
def execOraImm (v : Byte) (s : State) : Out := .next (opOra (.imm v) (s.credit 0x09))

/-- ORA, absolute (0x0D, R204). -/
def execOraAbs (a : Addr) (s : State) : Out := .next (opOra (.abs a) (s.credit 0x0D))

/-- ORA, (indirect),Y (0x11, R204). -/
def execOraIndy (a : Byte) (s : State) : Out := .next (opOra (.indy a) (s.credit 0x11))

/-- ORA, zero page,X (0x15, R204). -/
def execOraZpx (a : Byte) (s : State) : Out := .next (opOra (.zpx a) (s.credit 0x15))

/-- ORA, absolute,Y (0x19, R204). -/
def execOraAbsy (a : Addr) (s : State) : Out := .next (opOra (.absy a) (s.credit 0x19))

/-- ORA, absolute,X (0x1D, R204). -/
def execOraAbsx (a : Addr) (s : State) : Out := .next (opOra (.absx a) (s.credit 0x1D))

/-- `A <- A ^ LoadOperand(); SetNZ(A)` (R205). -/
def opEor (o : Operand) (s : State) : State :=
  let r := readOperand o s
  logicToA (r.2.a ^^^ r.1) r.2

/-- EOR, (indirect,X) (0x41, R205). -/
def execEorIndx (a : Byte) (s : State) : Out := .next (opEor (.indx a) (s.credit 0x41))

/-- EOR, zero page (0x45, R205). -/
def execEorZp (a : Byte) (s : State) : Out := .next (opEor (.zp a) (s.credit 0x45))

/-- EOR, immediate (0x49, R205). -/
def execEorImm (v : Byte) (s : State) : Out := .next (opEor (.imm v) (s.credit 0x49))

/-- EOR, absolute (0x4D, R205). -/
def execEorAbs (a : Addr) (s : State) : Out := .next (opEor (.abs a) (s.credit 0x4D))

/-- EOR, (indirect),Y (0x51, R205). -/
def execEorIndy (a : Byte) (s : State) : Out := .next (opEor (.indy a) (s.credit 0x51))

/-- EOR, zero page,X (0x55, R205). -/
def execEorZpx (a : Byte) (s : State) : Out := .next (opEor (.zpx a) (s.credit 0x55))

/-- EOR, absolute,Y (0x59, R205). -/
def execEorAbsy (a : Addr) (s : State) : Out := .next (opEor (.absy a) (s.credit 0x59))

/-- EOR, absolute,X (0x5D, R205). -/
def execEorAbsx (a : Addr) (s : State) : Out := .next (opEor (.absx a) (s.credit 0x5D))

/-- BIT: Z from `A & M`, N and V from `M` (R206). -/
def opBit (o : Operand) (s : State) : State :=
  let r := readOperand o s
  r.2.setP (bitFlags r.2.a r.1 r.2.p)

/-- BIT, zero page (0x24, R206). -/
def execBitZp (a : Byte) (s : State) : Out := .next (opBit (.zp a) (s.credit 0x24))

/-- BIT, absolute (0x2C, R206). -/
def execBitAbs (a : Addr) (s : State) : Out := .next (opBit (.abs a) (s.credit 0x2C))

/-- CMP (R207). -/
def opCmp (o : Operand) (s : State) : State :=
  let r := readOperand o s
  r.2.setP (compareFlags r.2.a r.1 r.2.p)

/-- CMP, (indirect,X) (0xC1, R207). -/
def execCmpIndx (a : Byte) (s : State) : Out := .next (opCmp (.indx a) (s.credit 0xC1))

/-- CMP, zero page (0xC5, R207). -/
def execCmpZp (a : Byte) (s : State) : Out := .next (opCmp (.zp a) (s.credit 0xC5))

/-- CMP, immediate (0xC9, R207). -/
def execCmpImm (v : Byte) (s : State) : Out := .next (opCmp (.imm v) (s.credit 0xC9))

/-- CMP, absolute (0xCD, R207). -/
def execCmpAbs (a : Addr) (s : State) : Out := .next (opCmp (.abs a) (s.credit 0xCD))

/-- CMP, (indirect),Y (0xD1, R207). -/
def execCmpIndy (a : Byte) (s : State) : Out := .next (opCmp (.indy a) (s.credit 0xD1))

/-- CMP, zero page,X (0xD5, R207). -/
def execCmpZpx (a : Byte) (s : State) : Out := .next (opCmp (.zpx a) (s.credit 0xD5))

/-- CMP, absolute,Y (0xD9, R207). -/
def execCmpAbsy (a : Addr) (s : State) : Out := .next (opCmp (.absy a) (s.credit 0xD9))

/-- CMP, absolute,X (0xDD, R207). -/
def execCmpAbsx (a : Addr) (s : State) : Out := .next (opCmp (.absx a) (s.credit 0xDD))

/-- CPX (R208). -/
def opCpx (o : Operand) (s : State) : State :=
  let r := readOperand o s
  r.2.setP (compareFlags r.2.x r.1 r.2.p)

/-- CPX, immediate (0xE0, R208). -/
def execCpxImm (v : Byte) (s : State) : Out := .next (opCpx (.imm v) (s.credit 0xE0))

/-- CPX, zero page (0xE4, R208). -/
def execCpxZp (a : Byte) (s : State) : Out := .next (opCpx (.zp a) (s.credit 0xE4))

/-- CPX, absolute (0xEC, R208). -/
def execCpxAbs (a : Addr) (s : State) : Out := .next (opCpx (.abs a) (s.credit 0xEC))

/-- CPY (R209). -/
def opCpy (o : Operand) (s : State) : State :=
  let r := readOperand o s
  r.2.setP (compareFlags r.2.y r.1 r.2.p)

/-- CPY, immediate (0xC0, R209). -/
def execCpyImm (v : Byte) (s : State) : Out := .next (opCpy (.imm v) (s.credit 0xC0))

/-- CPY, zero page (0xC4, R209). -/
def execCpyZp (a : Byte) (s : State) : Out := .next (opCpy (.zp a) (s.credit 0xC4))

/-- CPY, absolute (0xCC, R209). -/
def execCpyAbs (a : Addr) (s : State) : Out := .next (opCpy (.abs a) (s.credit 0xCC))

end Sys2Proof.Machine
end

