-- ==== Sys2Proof/Machine/Control.lean ====
section
/-! DEFINITION. Machine/Control.lean: control transfer, flag and no-operation instructions (44_control_flags.md R240 to R267). -/

namespace Sys2Proof.Machine

/-- `PC <- ea` (R241, R242). -/
def opJmp (o : Operand) (s : State) : State := jumpTarget o s

/-- JMP, absolute (0x4C, R241). -/
def execJmpAbs (a : Addr) (s : State) : Out := .next (opJmp (.abs a) (s.credit 0x4C))

/-- JMP, indirect (0x6C, R242). -/
def execJmpInd (a : Addr) (s : State) : Out := .next (opJmp (.ind a) (s.credit 0x6C))

/-- JSR: push the address of its own last byte, high byte first, then jump (R243). -/
def opJsr (o : Operand) (s : State) : State :=
  jumpTarget o (pushWord (hiByte (s.pc - 1)) (loByte (s.pc - 1)) s)

/-- JSR, absolute (0x20, R243). -/
def execJsr (a : Addr) (s : State) : Out := .next (opJsr (.abs a) (s.credit 0x20))

/-- RTS: pop the address and go to the one after it (R244). -/
def opRts (s : State) : State :=
  let r := popWord s
  r.2.setPc (r.1 + 1)

/-- RTS, implied (0x60, R244). -/
def execRts (s : State) : Out := .next (opRts (s.credit 0x60))

/-- BRK: skip one byte, then enter through the IRQ vector with B set in the pushed P; I, D and the stored B are not
changed (R245, R420). -/
def opBrk (s : State) : State :=
  let s1 := s.setPc (s.pc + 1)
  enterVector (loByte s1.pc) (s.p ||| 0x10#8) 0xFFFE s1

/-- BRK, implied (0x00, R245). -/
def execBrk (s : State) : Out := .next (opBrk (s.credit 0x00))

/-- RTI (R246). -/
def opRti (s : State) : State := returnFromVector s

/-- RTI, implied (0x40, R246). -/
def execRti (s : State) : Out := .next (opRti (s.credit 0x40))

/-- Branch if N = 0 (R251). -/
def opBpl (d : Byte) (s : State) : State := branchIf (!flagN s.p) d s

/-- BPL, relative (0x10, R251). -/
def execBpl (d : Byte) (s : State) : Out := .next (opBpl d (s.credit 0x10))

/-- Branch if N = 1 (R252). -/
def opBmi (d : Byte) (s : State) : State := branchIf (flagN s.p) d s

/-- BMI, relative (0x30, R252). -/
def execBmi (d : Byte) (s : State) : Out := .next (opBmi d (s.credit 0x30))

/-- Branch if V = 0 (R253). -/
def opBvc (d : Byte) (s : State) : State := branchIf (!flagV s.p) d s

/-- BVC, relative (0x50, R253). -/
def execBvc (d : Byte) (s : State) : Out := .next (opBvc d (s.credit 0x50))

/-- Branch if V = 1 (R254). -/
def opBvs (d : Byte) (s : State) : State := branchIf (flagV s.p) d s

/-- BVS, relative (0x70, R254). -/
def execBvs (d : Byte) (s : State) : Out := .next (opBvs d (s.credit 0x70))

/-- Branch if C = 0 (R255). -/
def opBcc (d : Byte) (s : State) : State := branchIf (!flagC s.p) d s

/-- BCC, relative (0x90, R255). -/
def execBcc (d : Byte) (s : State) : Out := .next (opBcc d (s.credit 0x90))

/-- Branch if C = 1 (R256). -/
def opBcs (d : Byte) (s : State) : State := branchIf (flagC s.p) d s

/-- BCS, relative (0xB0, R256). -/
def execBcs (d : Byte) (s : State) : Out := .next (opBcs d (s.credit 0xB0))

/-- Branch if Z = 0 (R257). -/
def opBne (d : Byte) (s : State) : State := branchIf (!flagZ s.p) d s

/-- BNE, relative (0xD0, R257). -/
def execBne (d : Byte) (s : State) : Out := .next (opBne d (s.credit 0xD0))

/-- Branch if Z = 1 (R258). -/
def opBeq (d : Byte) (s : State) : State := branchIf (flagZ s.p) d s

/-- BEQ, relative (0xF0, R258). -/
def execBeq (d : Byte) (s : State) : Out := .next (opBeq d (s.credit 0xF0))

/-- `P.C <- 0` (R260). -/
def opClc (s : State) : State := s.setP (putC s.p false)

/-- CLC, implied (0x18, R260). -/
def execClc (s : State) : Out := .next (opClc (s.credit 0x18))

/-- `P.C <- 1` (R261). -/
def opSec (s : State) : State := s.setP (putC s.p true)

/-- SEC, implied (0x38, R261). -/
def execSec (s : State) : Out := .next (opSec (s.credit 0x38))

/-- `P.I <- 0` (R262). -/
def opCli (s : State) : State := s.setP (putI s.p false)

/-- CLI, implied (0x58, R262). -/
def execCli (s : State) : Out := .next (opCli (s.credit 0x58))

/-- `P.I <- 1` (R263). -/
def opSei (s : State) : State := s.setP (putI s.p true)

/-- SEI, implied (0x78, R263). -/
def execSei (s : State) : Out := .next (opSei (s.credit 0x78))

/-- `P.D <- 0` (R264). -/
def opCld (s : State) : State := s.setP (putD s.p false)

/-- CLD, implied (0xD8, R264). -/
def execCld (s : State) : Out := .next (opCld (s.credit 0xD8))

/-- `P.D <- 1` (R265). -/
def opSed (s : State) : State := s.setP (putD s.p true)

/-- SED, implied (0xF8, R265). -/
def execSed (s : State) : Out := .next (opSed (s.credit 0xF8))

/-- `P.V <- 0` (R266). -/
def opClv (s : State) : State := s.setP (putV s.p false)

/-- CLV, implied (0xB8, R266). -/
def execClv (s : State) : Out := .next (opClv (s.credit 0xB8))

/-- No effect (R267). -/
def opNop (s : State) : State := s

/-- NOP, implied (0xEA, R267). -/
def execNop (s : State) : Out := .next (opNop (s.credit 0xEA))

end Sys2Proof.Machine
end

