-- ==== Sys2Proof/Machine/LoadStore.lean ====
section
/-! DEFINITION. Machine/LoadStore.lean: load, store, register transfer and stack instructions (41_load_store_transfer_stack.md
R170 to R188). For each instruction one shared meaning, then one definition per opcode-table row. -/

namespace Sys2Proof.Machine

/-- `A <- LoadOperand(); SetNZ(A)` (R171). -/
def opLda (o : Operand) (s : State) : State :=
  let r := readOperand o s
  (r.2.setA r.1).setP (setNZ r.1 r.2.p)

/-- LDA, (indirect,X) (0xA1, R171). -/
def execLdaIndx (a : Byte) (s : State) : Out := .next (opLda (.indx a) (s.credit 0xA1))

/-- LDA, zero page (0xA5, R171). -/
def execLdaZp (a : Byte) (s : State) : Out := .next (opLda (.zp a) (s.credit 0xA5))

/-- LDA, immediate (0xA9, R171). -/
def execLdaImm (v : Byte) (s : State) : Out := .next (opLda (.imm v) (s.credit 0xA9))

/-- LDA, absolute (0xAD, R171). -/
def execLdaAbs (a : Addr) (s : State) : Out := .next (opLda (.abs a) (s.credit 0xAD))

/-- LDA, (indirect),Y (0xB1, R171). -/
def execLdaIndy (a : Byte) (s : State) : Out := .next (opLda (.indy a) (s.credit 0xB1))

/-- LDA, zero page,X (0xB5, R171). -/
def execLdaZpx (a : Byte) (s : State) : Out := .next (opLda (.zpx a) (s.credit 0xB5))

/-- LDA, absolute,Y (0xB9, R171). -/
def execLdaAbsy (a : Addr) (s : State) : Out := .next (opLda (.absy a) (s.credit 0xB9))

/-- LDA, absolute,X (0xBD, R171). -/
def execLdaAbsx (a : Addr) (s : State) : Out := .next (opLda (.absx a) (s.credit 0xBD))

/-- `X <- LoadOperand(); SetNZ(X)` (R172). -/
def opLdx (o : Operand) (s : State) : State :=
  let r := readOperand o s
  (r.2.setX r.1).setP (setNZ r.1 r.2.p)

/-- LDX, immediate (0xA2, R172). -/
def execLdxImm (v : Byte) (s : State) : Out := .next (opLdx (.imm v) (s.credit 0xA2))

/-- LDX, zero page (0xA6, R172). -/
def execLdxZp (a : Byte) (s : State) : Out := .next (opLdx (.zp a) (s.credit 0xA6))

/-- LDX, absolute (0xAE, R172). -/
def execLdxAbs (a : Addr) (s : State) : Out := .next (opLdx (.abs a) (s.credit 0xAE))

/-- LDX, zero page,Y (0xB6, R172). -/
def execLdxZpy (a : Byte) (s : State) : Out := .next (opLdx (.zpy a) (s.credit 0xB6))

/-- LDX, absolute,Y (0xBE, R172). -/
def execLdxAbsy (a : Addr) (s : State) : Out := .next (opLdx (.absy a) (s.credit 0xBE))

/-- `Y <- LoadOperand(); SetNZ(Y)` (R173). -/
def opLdy (o : Operand) (s : State) : State :=
  let r := readOperand o s
  (r.2.setY r.1).setP (setNZ r.1 r.2.p)

/-- LDY, immediate (0xA0, R173). -/
def execLdyImm (v : Byte) (s : State) : Out := .next (opLdy (.imm v) (s.credit 0xA0))

/-- LDY, zero page (0xA4, R173). -/
def execLdyZp (a : Byte) (s : State) : Out := .next (opLdy (.zp a) (s.credit 0xA4))

/-- LDY, absolute (0xAC, R173). -/
def execLdyAbs (a : Addr) (s : State) : Out := .next (opLdy (.abs a) (s.credit 0xAC))

/-- LDY, zero page,X (0xB4, R173). -/
def execLdyZpx (a : Byte) (s : State) : Out := .next (opLdy (.zpx a) (s.credit 0xB4))

/-- LDY, absolute,X (0xBC, R173). -/
def execLdyAbsx (a : Addr) (s : State) : Out := .next (opLdy (.absx a) (s.credit 0xBC))

/-- `StoreOperand(A)` (R174). -/
def opSta (o : Operand) (s : State) : State := writeOperand o s.a s

/-- STA, (indirect,X) (0x81, R174). -/
def execStaIndx (a : Byte) (s : State) : Out := .next (opSta (.indx a) (s.credit 0x81))

/-- STA, zero page (0x85, R174). -/
def execStaZp (a : Byte) (s : State) : Out := .next (opSta (.zp a) (s.credit 0x85))

/-- STA, absolute (0x8D, R174). -/
def execStaAbs (a : Addr) (s : State) : Out := .next (opSta (.abs a) (s.credit 0x8D))

/-- STA, (indirect),Y (0x91, R174). -/
def execStaIndy (a : Byte) (s : State) : Out := .next (opSta (.indy a) (s.credit 0x91))

/-- STA, zero page,X (0x95, R174). -/
def execStaZpx (a : Byte) (s : State) : Out := .next (opSta (.zpx a) (s.credit 0x95))

/-- STA, absolute,Y (0x99, R174). -/
def execStaAbsy (a : Addr) (s : State) : Out := .next (opSta (.absy a) (s.credit 0x99))

/-- STA, absolute,X (0x9D, R174). -/
def execStaAbsx (a : Addr) (s : State) : Out := .next (opSta (.absx a) (s.credit 0x9D))

/-- `StoreOperand(X)` (R175). -/
def opStx (o : Operand) (s : State) : State := writeOperand o s.x s

/-- STX, zero page (0x86, R175). -/
def execStxZp (a : Byte) (s : State) : Out := .next (opStx (.zp a) (s.credit 0x86))

/-- STX, absolute (0x8E, R175). -/
def execStxAbs (a : Addr) (s : State) : Out := .next (opStx (.abs a) (s.credit 0x8E))

/-- STX, zero page,Y (0x96, R175). -/
def execStxZpy (a : Byte) (s : State) : Out := .next (opStx (.zpy a) (s.credit 0x96))

/-- `StoreOperand(Y)` (R176). -/
def opSty (o : Operand) (s : State) : State := writeOperand o s.y s

/-- STY, zero page (0x84, R176). -/
def execStyZp (a : Byte) (s : State) : Out := .next (opSty (.zp a) (s.credit 0x84))

/-- STY, absolute (0x8C, R176). -/
def execStyAbs (a : Addr) (s : State) : Out := .next (opSty (.abs a) (s.credit 0x8C))

/-- STY, zero page,X (0x94, R176). -/
def execStyZpx (a : Byte) (s : State) : Out := .next (opSty (.zpx a) (s.credit 0x94))

/-- `X <- A; SetNZ(X)` (R177). -/
def opTax (s : State) : State := (s.setX s.a).setP (setNZ s.a s.p)

/-- TAX, implied (0xAA, R177). -/
def execTax (s : State) : Out := .next (opTax (s.credit 0xAA))

/-- `Y <- A; SetNZ(Y)` (R178). -/
def opTay (s : State) : State := (s.setY s.a).setP (setNZ s.a s.p)

/-- TAY, implied (0xA8, R178). -/
def execTay (s : State) : Out := .next (opTay (s.credit 0xA8))

/-- `A <- X; SetNZ(A)` (R179). -/
def opTxa (s : State) : State := (s.setA s.x).setP (setNZ s.x s.p)

/-- TXA, implied (0x8A, R179). -/
def execTxa (s : State) : Out := .next (opTxa (s.credit 0x8A))

/-- `A <- Y; SetNZ(A)` (R180). -/
def opTya (s : State) : State := (s.setA s.y).setP (setNZ s.y s.p)

/-- TYA, implied (0x98, R180). -/
def execTya (s : State) : Out := .next (opTya (s.credit 0x98))

/-- `X <- S; SetNZ(X)` (R181). -/
def opTsx (s : State) : State := (s.setX s.sp).setP (setNZ s.sp s.p)

/-- TSX, implied (0xBA, R181). -/
def execTsx (s : State) : Out := .next (opTsx (s.credit 0xBA))

/-- `S <- X`, no flag (R182). -/
def opTxs (s : State) : State := s.setSp s.x

/-- TXS, implied (0x9A, R182). -/
def execTxs (s : State) : Out := .next (opTxs (s.credit 0x9A))

/-- `Push(A)` (R185). -/
def opPha (s : State) : State := push s.a s

/-- PHA, implied (0x48, R185). -/
def execPha (s : State) : Out := .next (opPha (s.credit 0x48))

/-- `Push(P | 0x30)`; P is not changed (R186). -/
def opPhp (s : State) : State := push (s.p ||| 0x30#8) s

/-- PHP, implied (0x08, R186). -/
def execPhp (s : State) : Out := .next (opPhp (s.credit 0x08))

/-- `A <- Pop(); SetNZ(A)` (R187). -/
def opPla (s : State) : State :=
  let r := pop s
  (r.2.setA r.1).setP (setNZ r.1 r.2.p)

/-- PLA, implied (0x68, R187). -/
def execPla (s : State) : Out := .next (opPla (s.credit 0x68))

/-- `v <- Pop(); P <- (v & 0xEF) | 0x20` (R188). -/
def opPlp (s : State) : State :=
  let r := pop s
  r.2.setP (pulledStatus r.1)

/-- PLP, implied (0x28, R188). -/
def execPlp (s : State) : Out := .next (opPlp (s.credit 0x28))

end Sys2Proof.Machine
end

