-- ==== Sys2Proof/Machine/Shift.lean ====
section
/-! DEFINITION. Machine/Shift.lean: shift, rotate, increment and decrement instructions (43_shift_incdec.md R220 to R230). -/

namespace Sys2Proof.Machine

/-- A read-modify-write whose result sets N and Z (R220). -/
def modifyNZ (f : Byte → Byte → Byte × Byte) (o : Operand) (s : State) : State :=
  let r := modifyOperand f o s
  r.2.setP (setNZ r.1 r.2.p)

/-- ASL (R221). -/
def opAsl (o : Operand) (s : State) : State := modifyNZ shiftLeft o s

/-- ASL, zero page (0x06, R221). -/
def execAslZp (a : Byte) (s : State) : Out := .next (opAsl (.zp a) (s.credit 0x06))

/-- ASL, accumulator (0x0A, R221). -/
def execAslAcc (s : State) : Out := .next (opAsl .acc (s.credit 0x0A))

/-- ASL, absolute (0x0E, R221). -/
def execAslAbs (a : Addr) (s : State) : Out := .next (opAsl (.abs a) (s.credit 0x0E))

/-- ASL, zero page,X (0x16, R221). -/
def execAslZpx (a : Byte) (s : State) : Out := .next (opAsl (.zpx a) (s.credit 0x16))

/-- ASL, absolute,X (0x1E, R221). -/
def execAslAbsx (a : Addr) (s : State) : Out := .next (opAsl (.absx a) (s.credit 0x1E))

/-- LSR (R222). -/
def opLsr (o : Operand) (s : State) : State := modifyNZ shiftRight o s

/-- LSR, zero page (0x46, R222). -/
def execLsrZp (a : Byte) (s : State) : Out := .next (opLsr (.zp a) (s.credit 0x46))

/-- LSR, accumulator (0x4A, R222). -/
def execLsrAcc (s : State) : Out := .next (opLsr .acc (s.credit 0x4A))

/-- LSR, absolute (0x4E, R222). -/
def execLsrAbs (a : Addr) (s : State) : Out := .next (opLsr (.abs a) (s.credit 0x4E))

/-- LSR, zero page,X (0x56, R222). -/
def execLsrZpx (a : Byte) (s : State) : Out := .next (opLsr (.zpx a) (s.credit 0x56))

/-- LSR, absolute,X (0x5E, R222). -/
def execLsrAbsx (a : Addr) (s : State) : Out := .next (opLsr (.absx a) (s.credit 0x5E))

/-- ROL (R223). -/
def opRol (o : Operand) (s : State) : State := modifyNZ rotateLeft o s

/-- ROL, zero page (0x26, R223). -/
def execRolZp (a : Byte) (s : State) : Out := .next (opRol (.zp a) (s.credit 0x26))

/-- ROL, accumulator (0x2A, R223). -/
def execRolAcc (s : State) : Out := .next (opRol .acc (s.credit 0x2A))

/-- ROL, absolute (0x2E, R223). -/
def execRolAbs (a : Addr) (s : State) : Out := .next (opRol (.abs a) (s.credit 0x2E))

/-- ROL, zero page,X (0x36, R223). -/
def execRolZpx (a : Byte) (s : State) : Out := .next (opRol (.zpx a) (s.credit 0x36))

/-- ROL, absolute,X (0x3E, R223). -/
def execRolAbsx (a : Addr) (s : State) : Out := .next (opRol (.absx a) (s.credit 0x3E))

/-- ROR (R224). -/
def opRor (o : Operand) (s : State) : State := modifyNZ rotateRight o s

/-- ROR, zero page (0x66, R224). -/
def execRorZp (a : Byte) (s : State) : Out := .next (opRor (.zp a) (s.credit 0x66))

/-- ROR, accumulator (0x6A, R224). -/
def execRorAcc (s : State) : Out := .next (opRor .acc (s.credit 0x6A))

/-- ROR, absolute (0x6E, R224). -/
def execRorAbs (a : Addr) (s : State) : Out := .next (opRor (.abs a) (s.credit 0x6E))

/-- ROR, zero page,X (0x76, R224). -/
def execRorZpx (a : Byte) (s : State) : Out := .next (opRor (.zpx a) (s.credit 0x76))

/-- ROR, absolute,X (0x7E, R224). -/
def execRorAbsx (a : Addr) (s : State) : Out := .next (opRor (.absx a) (s.credit 0x7E))

/-- INC (R225). -/
def opInc (o : Operand) (s : State) : State := modifyNZ increment o s

/-- INC, zero page (0xE6, R225). -/
def execIncZp (a : Byte) (s : State) : Out := .next (opInc (.zp a) (s.credit 0xE6))

/-- INC, absolute (0xEE, R225). -/
def execIncAbs (a : Addr) (s : State) : Out := .next (opInc (.abs a) (s.credit 0xEE))

/-- INC, zero page,X (0xF6, R225). -/
def execIncZpx (a : Byte) (s : State) : Out := .next (opInc (.zpx a) (s.credit 0xF6))

/-- INC, absolute,X (0xFE, R225). -/
def execIncAbsx (a : Addr) (s : State) : Out := .next (opInc (.absx a) (s.credit 0xFE))

/-- DEC (R226). -/
def opDec (o : Operand) (s : State) : State := modifyNZ decrement o s

/-- DEC, zero page (0xC6, R226). -/
def execDecZp (a : Byte) (s : State) : Out := .next (opDec (.zp a) (s.credit 0xC6))

/-- DEC, absolute (0xCE, R226). -/
def execDecAbs (a : Addr) (s : State) : Out := .next (opDec (.abs a) (s.credit 0xCE))

/-- DEC, zero page,X (0xD6, R226). -/
def execDecZpx (a : Byte) (s : State) : Out := .next (opDec (.zpx a) (s.credit 0xD6))

/-- DEC, absolute,X (0xDE, R226). -/
def execDecAbsx (a : Addr) (s : State) : Out := .next (opDec (.absx a) (s.credit 0xDE))

/-- `X <- u8(X + 1); SetNZ(X)` (R227). -/
def opInx (s : State) : State := (s.setX (s.x + 1)).setP (setNZ (s.x + 1) s.p)

/-- INX, implied (0xE8, R227). -/
def execInx (s : State) : Out := .next (opInx (s.credit 0xE8))

/-- `Y <- u8(Y + 1); SetNZ(Y)` (R228). -/
def opIny (s : State) : State := (s.setY (s.y + 1)).setP (setNZ (s.y + 1) s.p)

/-- INY, implied (0xC8, R228). -/
def execIny (s : State) : Out := .next (opIny (s.credit 0xC8))

/-- `X <- u8(X - 1); SetNZ(X)` (R229). -/
def opDex (s : State) : State := (s.setX (s.x - 1)).setP (setNZ (s.x - 1) s.p)

/-- DEX, implied (0xCA, R229). -/
def execDex (s : State) : Out := .next (opDex (s.credit 0xCA))

/-- `Y <- u8(Y - 1); SetNZ(Y)` (R230). -/
def opDey (s : State) : State := (s.setY (s.y - 1)).setP (setNZ (s.y - 1) s.p)

/-- DEY, implied (0x88, R230). -/
def execDey (s : State) : Out := .next (opDey (s.credit 0x88))

end Sys2Proof.Machine
end

