-- ==== Sys2Proof/Machine/Unofficial.lean ====
section
/-! DEFINITION. Machine/Unofficial.lean: the listed unofficial instructions and the unlisted opcodes (45_unofficial.md R280 to
R296). -/

namespace Sys2Proof.Machine

/-- The operand read of DOP and TOP, its value discarded, with the page-crossing cycle of a read-type instruction
(R281, R282). An immediate DOP reads its operand byte "a second time" (R281; assumption log 9). -/
def readAndDiscard (o : Operand) (s : State) : State :=
  let k := effAddr o s
  let s1 := k.2.addCycles k.1.crossed.toNat
  match k.1.ea with
  | some a => if nopOperandRead then (busRead a s1).2 else s1
  | none => s1

/-- DOP (R281). -/
def opDop (o : Operand) (s : State) : State := readAndDiscard o s

/-- DOP, zero page (0x04, R281). -/
def execDop04 (a : Byte) (s : State) : Out := .next (opDop (.zp a) (s.credit 0x04))

/-- DOP, zero page,X (0x14, R281). -/
def execDop14 (a : Byte) (s : State) : Out := .next (opDop (.zpx a) (s.credit 0x14))

/-- DOP, zero page,X (0x34, R281). -/
def execDop34 (a : Byte) (s : State) : Out := .next (opDop (.zpx a) (s.credit 0x34))

/-- DOP, zero page (0x44, R281). -/
def execDop44 (a : Byte) (s : State) : Out := .next (opDop (.zp a) (s.credit 0x44))

/-- DOP, zero page,X (0x54, R281). -/
def execDop54 (a : Byte) (s : State) : Out := .next (opDop (.zpx a) (s.credit 0x54))

/-- DOP, zero page (0x64, R281). -/
def execDop64 (a : Byte) (s : State) : Out := .next (opDop (.zp a) (s.credit 0x64))

/-- DOP, zero page,X (0x74, R281). -/
def execDop74 (a : Byte) (s : State) : Out := .next (opDop (.zpx a) (s.credit 0x74))

/-- DOP, immediate (0x80, R281). -/
def execDop80 (v : Byte) (s : State) : Out := .next (opDop (.imm v) (s.credit 0x80))

/-- DOP, immediate (0x82, R281). -/
def execDop82 (v : Byte) (s : State) : Out := .next (opDop (.imm v) (s.credit 0x82))

/-- DOP, immediate (0x89, R281). -/
def execDop89 (v : Byte) (s : State) : Out := .next (opDop (.imm v) (s.credit 0x89))

/-- DOP, immediate (0xC2, R281). -/
def execDopC2 (v : Byte) (s : State) : Out := .next (opDop (.imm v) (s.credit 0xC2))

/-- DOP, zero page,X (0xD4, R281). -/
def execDopD4 (a : Byte) (s : State) : Out := .next (opDop (.zpx a) (s.credit 0xD4))

/-- DOP, immediate (0xE2, R281). -/
def execDopE2 (v : Byte) (s : State) : Out := .next (opDop (.imm v) (s.credit 0xE2))

/-- DOP, zero page,X (0xF4, R281). -/
def execDopF4 (a : Byte) (s : State) : Out := .next (opDop (.zpx a) (s.credit 0xF4))

/-- TOP (R282). -/
def opTop (o : Operand) (s : State) : State := readAndDiscard o s

/-- TOP, absolute (0x0C, R282). -/
def execTop0C (a : Addr) (s : State) : Out := .next (opTop (.abs a) (s.credit 0x0C))

/-- TOP, absolute,X (0x1C, R282). -/
def execTop1C (a : Addr) (s : State) : Out := .next (opTop (.absx a) (s.credit 0x1C))

/-- TOP, absolute,X (0x3C, R282). -/
def execTop3C (a : Addr) (s : State) : Out := .next (opTop (.absx a) (s.credit 0x3C))

/-- TOP, absolute,X (0x5C, R282). -/
def execTop5C (a : Addr) (s : State) : Out := .next (opTop (.absx a) (s.credit 0x5C))

/-- TOP, absolute,X (0x7C, R282). -/
def execTop7C (a : Addr) (s : State) : Out := .next (opTop (.absx a) (s.credit 0x7C))

/-- TOP, absolute,X (0xDC, R282). -/
def execTopDC (a : Addr) (s : State) : Out := .next (opTop (.absx a) (s.credit 0xDC))

/-- TOP, absolute,X (0xFC, R282). -/
def execTopFC (a : Addr) (s : State) : Out := .next (opTop (.absx a) (s.credit 0xFC))

/-- `M <- LoadOperand(); A <- M; X <- M; SetNZ(M)` (R283). -/
def opLax (o : Operand) (s : State) : State :=
  let r := readOperand o s
  ((r.2.setA r.1).setX r.1).setP (setNZ r.1 r.2.p)

/-- LAX, (indirect,X) (0xA3, R283). -/
def execLaxIndx (a : Byte) (s : State) : Out := .next (opLax (.indx a) (s.credit 0xA3))

/-- LAX, zero page (0xA7, R283). -/
def execLaxZp (a : Byte) (s : State) : Out := .next (opLax (.zp a) (s.credit 0xA7))

/-- LAX, absolute (0xAF, R283). -/
def execLaxAbs (a : Addr) (s : State) : Out := .next (opLax (.abs a) (s.credit 0xAF))

/-- LAX, (indirect),Y (0xB3, R283). -/
def execLaxIndy (a : Byte) (s : State) : Out := .next (opLax (.indy a) (s.credit 0xB3))

/-- LAX, zero page,Y (0xB7, R283). -/
def execLaxZpy (a : Byte) (s : State) : Out := .next (opLax (.zpy a) (s.credit 0xB7))

/-- LAX, absolute,Y (0xBF, R283). -/
def execLaxAbsy (a : Addr) (s : State) : Out := .next (opLax (.absy a) (s.credit 0xBF))

/-- `StoreOperand(A & X)` (R284). -/
def opSax (o : Operand) (s : State) : State := writeOperand o (s.a &&& s.x) s

/-- SAX, (indirect,X) (0x83, R284). -/
def execSaxIndx (a : Byte) (s : State) : Out := .next (opSax (.indx a) (s.credit 0x83))

/-- SAX, zero page (0x87, R284). -/
def execSaxZp (a : Byte) (s : State) : Out := .next (opSax (.zp a) (s.credit 0x87))

/-- SAX, absolute (0x8F, R284). -/
def execSaxAbs (a : Addr) (s : State) : Out := .next (opSax (.abs a) (s.credit 0x8F))

/-- SAX, zero page,Y (0x97, R284). -/
def execSaxZpy (a : Byte) (s : State) : Out := .next (opSax (.zpy a) (s.credit 0x97))

/-- USBC: exactly SBC with the immediate operand (R285). -/
def opUsbc (o : Operand) (s : State) : State :=
  let r := readOperand o s
  subFromA r.1 r.2

/-- USBC, immediate (0xEB, R285). -/
def execUsbc (v : Byte) (s : State) : Out := .next (opUsbc (.imm v) (s.credit 0xEB))

/-- DCP: decrement memory, then compare A with the byte stored (R286). -/
def opDcp (o : Operand) (s : State) : State :=
  let r := modifyOperand decrement o s
  r.2.setP (compareFlags r.2.a r.1 r.2.p)

/-- DCP, (indirect,X) (0xC3, R286). -/
def execDcpIndx (a : Byte) (s : State) : Out := .next (opDcp (.indx a) (s.credit 0xC3))

/-- DCP, zero page (0xC7, R286). -/
def execDcpZp (a : Byte) (s : State) : Out := .next (opDcp (.zp a) (s.credit 0xC7))

/-- DCP, absolute (0xCF, R286). -/
def execDcpAbs (a : Addr) (s : State) : Out := .next (opDcp (.abs a) (s.credit 0xCF))

/-- DCP, (indirect),Y (0xD3, R286). -/
def execDcpIndy (a : Byte) (s : State) : Out := .next (opDcp (.indy a) (s.credit 0xD3))

/-- DCP, zero page,X (0xD7, R286). -/
def execDcpZpx (a : Byte) (s : State) : Out := .next (opDcp (.zpx a) (s.credit 0xD7))

/-- DCP, absolute,Y (0xDB, R286). -/
def execDcpAbsy (a : Addr) (s : State) : Out := .next (opDcp (.absy a) (s.credit 0xDB))

/-- DCP, absolute,X (0xDF, R286). -/
def execDcpAbsx (a : Addr) (s : State) : Out := .next (opDcp (.absx a) (s.credit 0xDF))

/-- ISC: increment memory, then subtract the byte stored from A (R287). -/
def opIsc (o : Operand) (s : State) : State :=
  let r := modifyOperand increment o s
  subFromA r.1 r.2

/-- ISC, (indirect,X) (0xE3, R287). -/
def execIscIndx (a : Byte) (s : State) : Out := .next (opIsc (.indx a) (s.credit 0xE3))

/-- ISC, zero page (0xE7, R287). -/
def execIscZp (a : Byte) (s : State) : Out := .next (opIsc (.zp a) (s.credit 0xE7))

/-- ISC, absolute (0xEF, R287). -/
def execIscAbs (a : Addr) (s : State) : Out := .next (opIsc (.abs a) (s.credit 0xEF))

/-- ISC, (indirect),Y (0xF3, R287). -/
def execIscIndy (a : Byte) (s : State) : Out := .next (opIsc (.indy a) (s.credit 0xF3))

/-- ISC, zero page,X (0xF7, R287). -/
def execIscZpx (a : Byte) (s : State) : Out := .next (opIsc (.zpx a) (s.credit 0xF7))

/-- ISC, absolute,Y (0xFB, R287). -/
def execIscAbsy (a : Addr) (s : State) : Out := .next (opIsc (.absy a) (s.credit 0xFB))

/-- ISC, absolute,X (0xFF, R287). -/
def execIscAbsx (a : Addr) (s : State) : Out := .next (opIsc (.absx a) (s.credit 0xFF))

/-- SLO: shift memory left, then OR the byte stored into A (R288). -/
def opSlo (o : Operand) (s : State) : State :=
  let r := modifyOperand shiftLeft o s
  logicToA (r.2.a ||| r.1) r.2

/-- SLO, (indirect,X) (0x03, R288). -/
def execSloIndx (a : Byte) (s : State) : Out := .next (opSlo (.indx a) (s.credit 0x03))

/-- SLO, zero page (0x07, R288). -/
def execSloZp (a : Byte) (s : State) : Out := .next (opSlo (.zp a) (s.credit 0x07))

/-- SLO, absolute (0x0F, R288). -/
def execSloAbs (a : Addr) (s : State) : Out := .next (opSlo (.abs a) (s.credit 0x0F))

/-- SLO, (indirect),Y (0x13, R288). -/
def execSloIndy (a : Byte) (s : State) : Out := .next (opSlo (.indy a) (s.credit 0x13))

/-- SLO, zero page,X (0x17, R288). -/
def execSloZpx (a : Byte) (s : State) : Out := .next (opSlo (.zpx a) (s.credit 0x17))

/-- SLO, absolute,Y (0x1B, R288). -/
def execSloAbsy (a : Addr) (s : State) : Out := .next (opSlo (.absy a) (s.credit 0x1B))

/-- SLO, absolute,X (0x1F, R288). -/
def execSloAbsx (a : Addr) (s : State) : Out := .next (opSlo (.absx a) (s.credit 0x1F))

/-- RLA: rotate memory left, then AND the byte stored into A (R289). -/
def opRla (o : Operand) (s : State) : State :=
  let r := modifyOperand rotateLeft o s
  logicToA (r.2.a &&& r.1) r.2

/-- RLA, (indirect,X) (0x23, R289). -/
def execRlaIndx (a : Byte) (s : State) : Out := .next (opRla (.indx a) (s.credit 0x23))

/-- RLA, zero page (0x27, R289). -/
def execRlaZp (a : Byte) (s : State) : Out := .next (opRla (.zp a) (s.credit 0x27))

/-- RLA, absolute (0x2F, R289). -/
def execRlaAbs (a : Addr) (s : State) : Out := .next (opRla (.abs a) (s.credit 0x2F))

/-- RLA, (indirect),Y (0x33, R289). -/
def execRlaIndy (a : Byte) (s : State) : Out := .next (opRla (.indy a) (s.credit 0x33))

/-- RLA, zero page,X (0x37, R289). -/
def execRlaZpx (a : Byte) (s : State) : Out := .next (opRla (.zpx a) (s.credit 0x37))

/-- RLA, absolute,Y (0x3B, R289). -/
def execRlaAbsy (a : Addr) (s : State) : Out := .next (opRla (.absy a) (s.credit 0x3B))

/-- RLA, absolute,X (0x3F, R289). -/
def execRlaAbsx (a : Addr) (s : State) : Out := .next (opRla (.absx a) (s.credit 0x3F))

/-- SRE: shift memory right, then EOR the byte stored into A (R290). -/
def opSre (o : Operand) (s : State) : State :=
  let r := modifyOperand shiftRight o s
  logicToA (r.2.a ^^^ r.1) r.2

/-- SRE, (indirect,X) (0x43, R290). -/
def execSreIndx (a : Byte) (s : State) : Out := .next (opSre (.indx a) (s.credit 0x43))

/-- SRE, zero page (0x47, R290). -/
def execSreZp (a : Byte) (s : State) : Out := .next (opSre (.zp a) (s.credit 0x47))

/-- SRE, absolute (0x4F, R290). -/
def execSreAbs (a : Addr) (s : State) : Out := .next (opSre (.abs a) (s.credit 0x4F))

/-- SRE, (indirect),Y (0x53, R290). -/
def execSreIndy (a : Byte) (s : State) : Out := .next (opSre (.indy a) (s.credit 0x53))

/-- SRE, zero page,X (0x57, R290). -/
def execSreZpx (a : Byte) (s : State) : Out := .next (opSre (.zpx a) (s.credit 0x57))

/-- SRE, absolute,Y (0x5B, R290). -/
def execSreAbsy (a : Addr) (s : State) : Out := .next (opSre (.absy a) (s.credit 0x5B))

/-- SRE, absolute,X (0x5F, R290). -/
def execSreAbsx (a : Addr) (s : State) : Out := .next (opSre (.absx a) (s.credit 0x5F))

/-- RRA: rotate memory right, then add the byte stored to A with the carry just written (R291). -/
def opRra (o : Operand) (s : State) : State :=
  let r := modifyOperand rotateRight o s
  addToA r.1 r.2

/-- RRA, (indirect,X) (0x63, R291). -/
def execRraIndx (a : Byte) (s : State) : Out := .next (opRra (.indx a) (s.credit 0x63))

/-- RRA, zero page (0x67, R291). -/
def execRraZp (a : Byte) (s : State) : Out := .next (opRra (.zp a) (s.credit 0x67))

/-- RRA, absolute (0x6F, R291). -/
def execRraAbs (a : Addr) (s : State) : Out := .next (opRra (.abs a) (s.credit 0x6F))

/-- RRA, (indirect),Y (0x73, R291). -/
def execRraIndy (a : Byte) (s : State) : Out := .next (opRra (.indy a) (s.credit 0x73))

/-- RRA, zero page,X (0x77, R291). -/
def execRraZpx (a : Byte) (s : State) : Out := .next (opRra (.zpx a) (s.credit 0x77))

/-- RRA, absolute,Y (0x7B, R291). -/
def execRraAbsy (a : Addr) (s : State) : Out := .next (opRra (.absy a) (s.credit 0x7B))

/-- RRA, absolute,X (0x7F, R291). -/
def execRraAbsx (a : Addr) (s : State) : Out := .next (opRra (.absx a) (s.credit 0x7F))

/-- NOP1: no effect (R295). -/
def opNop1 (s : State) : State := s

/-- NOP1, implied (0x1A, R295). -/
def execNop1x1A (s : State) : Out := .next (opNop1 (s.credit 0x1A))

/-- NOP1, implied (0x3A, R295). -/
def execNop1x3A (s : State) : Out := .next (opNop1 (s.credit 0x3A))

/-- NOP1, implied (0x5A, R295). -/
def execNop1x5A (s : State) : Out := .next (opNop1 (s.credit 0x5A))

/-- NOP1, implied (0x7A, R295). -/
def execNop1x7A (s : State) : Out := .next (opNop1 (s.credit 0x7A))

/-- NOP1, implied (0xDA, R295). -/
def execNop1xDA (s : State) : Out := .next (opNop1 (s.credit 0xDA))

/-- NOP1, implied (0xFA, R295). -/
def execNop1xFA (s : State) : Out := .next (opNop1 (s.credit 0xFA))

/-- UNL: "a NOP with `PC <- u16(PC + UNLISTED_LEN[op] - 1)` after the opcode fetch, no other change" (R296). The length
is the free value `Config.unlistedOperands` (assumption log 4). -/
def opUnl (op : Byte) (s : State) : State := s.setPc (s.pc + BitVec.ofNat 16 (Config.unlistedOperands op).val)

/-- UNL, unlisted (0x02, R296). -/
def execUnl02 (s : State) : Out := .next (opUnl 0x02 (s.credit 0x02))

/-- UNL, unlisted (0x0B, R296). -/
def execUnl0B (s : State) : Out := .next (opUnl 0x0B (s.credit 0x0B))

/-- UNL, unlisted (0x12, R296). -/
def execUnl12 (s : State) : Out := .next (opUnl 0x12 (s.credit 0x12))

/-- UNL, unlisted (0x22, R296). -/
def execUnl22 (s : State) : Out := .next (opUnl 0x22 (s.credit 0x22))

/-- UNL, unlisted (0x2B, R296). -/
def execUnl2B (s : State) : Out := .next (opUnl 0x2B (s.credit 0x2B))

/-- UNL, unlisted (0x32, R296). -/
def execUnl32 (s : State) : Out := .next (opUnl 0x32 (s.credit 0x32))

/-- UNL, unlisted (0x42, R296). -/
def execUnl42 (s : State) : Out := .next (opUnl 0x42 (s.credit 0x42))

/-- UNL, unlisted (0x4B, R296). -/
def execUnl4B (s : State) : Out := .next (opUnl 0x4B (s.credit 0x4B))

/-- UNL, unlisted (0x52, R296). -/
def execUnl52 (s : State) : Out := .next (opUnl 0x52 (s.credit 0x52))

/-- UNL, unlisted (0x62, R296). -/
def execUnl62 (s : State) : Out := .next (opUnl 0x62 (s.credit 0x62))

/-- UNL, unlisted (0x6B, R296). -/
def execUnl6B (s : State) : Out := .next (opUnl 0x6B (s.credit 0x6B))

/-- UNL, unlisted (0x72, R296). -/
def execUnl72 (s : State) : Out := .next (opUnl 0x72 (s.credit 0x72))

/-- UNL, unlisted (0x8B, R296). -/
def execUnl8B (s : State) : Out := .next (opUnl 0x8B (s.credit 0x8B))

/-- UNL, unlisted (0x92, R296). -/
def execUnl92 (s : State) : Out := .next (opUnl 0x92 (s.credit 0x92))

/-- UNL, unlisted (0x93, R296). -/
def execUnl93 (s : State) : Out := .next (opUnl 0x93 (s.credit 0x93))

/-- UNL, unlisted (0x9B, R296). -/
def execUnl9B (s : State) : Out := .next (opUnl 0x9B (s.credit 0x9B))

/-- UNL, unlisted (0x9C, R296). -/
def execUnl9C (s : State) : Out := .next (opUnl 0x9C (s.credit 0x9C))

/-- UNL, unlisted (0x9E, R296). -/
def execUnl9E (s : State) : Out := .next (opUnl 0x9E (s.credit 0x9E))

/-- UNL, unlisted (0x9F, R296). -/
def execUnl9F (s : State) : Out := .next (opUnl 0x9F (s.credit 0x9F))

/-- UNL, unlisted (0xAB, R296). -/
def execUnlAB (s : State) : Out := .next (opUnl 0xAB (s.credit 0xAB))

/-- UNL, unlisted (0xB2, R296). -/
def execUnlB2 (s : State) : Out := .next (opUnl 0xB2 (s.credit 0xB2))

/-- UNL, unlisted (0xBB, R296). -/
def execUnlBB (s : State) : Out := .next (opUnl 0xBB (s.credit 0xBB))

/-- UNL, unlisted (0xCB, R296). -/
def execUnlCB (s : State) : Out := .next (opUnl 0xCB (s.credit 0xCB))

/-- UNL, unlisted (0xD2, R296). -/
def execUnlD2 (s : State) : Out := .next (opUnl 0xD2 (s.credit 0xD2))

/-- UNL, unlisted (0xF2, R296). -/
def execUnlF2 (s : State) : Out := .next (opUnl 0xF2 (s.credit 0xF2))

end Sys2Proof.Machine
end

