-- ==== Sys2Proof/Machine/Dispatch.lean ====
section
/-! DEFINITION. Machine/Dispatch.lean: the meaning of each instruction, by constructor. `exec i s` runs after the step
has fetched the instruction's bytes, so that `s.pc` is the address after them (41_load_store_transfer_stack.md R170). -/

namespace Sys2Proof.Machine

def exec (i : Instr) (s : State) : Host.Outcome State Fault Refusal :=
  match i with
  | .brk => Sys2Proof.Machine.execBrk s
  | .oraIndx a => Sys2Proof.Machine.execOraIndx a s
  | .unl02 => Sys2Proof.Machine.execUnl02 s
  | .sloIndx a => Sys2Proof.Machine.execSloIndx a s
  | .dop04 a => Sys2Proof.Machine.execDop04 a s
  | .oraZp a => Sys2Proof.Machine.execOraZp a s
  | .aslZp a => Sys2Proof.Machine.execAslZp a s
  | .sloZp a => Sys2Proof.Machine.execSloZp a s
  | .php => Sys2Proof.Machine.execPhp s
  | .oraImm v => Sys2Proof.Machine.execOraImm v s
  | .aslAcc => Sys2Proof.Machine.execAslAcc s
  | .unl0B => Sys2Proof.Machine.execUnl0B s
  | .top0C a => Sys2Proof.Machine.execTop0C a s
  | .oraAbs a => Sys2Proof.Machine.execOraAbs a s
  | .aslAbs a => Sys2Proof.Machine.execAslAbs a s
  | .sloAbs a => Sys2Proof.Machine.execSloAbs a s
  | .bpl d => Sys2Proof.Machine.execBpl d s
  | .oraIndy a => Sys2Proof.Machine.execOraIndy a s
  | .unl12 => Sys2Proof.Machine.execUnl12 s
  | .sloIndy a => Sys2Proof.Machine.execSloIndy a s
  | .dop14 a => Sys2Proof.Machine.execDop14 a s
  | .oraZpx a => Sys2Proof.Machine.execOraZpx a s
  | .aslZpx a => Sys2Proof.Machine.execAslZpx a s
  | .sloZpx a => Sys2Proof.Machine.execSloZpx a s
  | .clc => Sys2Proof.Machine.execClc s
  | .oraAbsy a => Sys2Proof.Machine.execOraAbsy a s
  | .nop1x1A => Sys2Proof.Machine.execNop1x1A s
  | .sloAbsy a => Sys2Proof.Machine.execSloAbsy a s
  | .top1C a => Sys2Proof.Machine.execTop1C a s
  | .oraAbsx a => Sys2Proof.Machine.execOraAbsx a s
  | .aslAbsx a => Sys2Proof.Machine.execAslAbsx a s
  | .sloAbsx a => Sys2Proof.Machine.execSloAbsx a s
  | .jsr a => Sys2Proof.Machine.execJsr a s
  | .andIndx a => Sys2Proof.Machine.execAndIndx a s
  | .unl22 => Sys2Proof.Machine.execUnl22 s
  | .rlaIndx a => Sys2Proof.Machine.execRlaIndx a s
  | .bitZp a => Sys2Proof.Machine.execBitZp a s
  | .andZp a => Sys2Proof.Machine.execAndZp a s
  | .rolZp a => Sys2Proof.Machine.execRolZp a s
  | .rlaZp a => Sys2Proof.Machine.execRlaZp a s
  | .plp => Sys2Proof.Machine.execPlp s
  | .andImm v => Sys2Proof.Machine.execAndImm v s
  | .rolAcc => Sys2Proof.Machine.execRolAcc s
  | .unl2B => Sys2Proof.Machine.execUnl2B s
  | .bitAbs a => Sys2Proof.Machine.execBitAbs a s
  | .andAbs a => Sys2Proof.Machine.execAndAbs a s
  | .rolAbs a => Sys2Proof.Machine.execRolAbs a s
  | .rlaAbs a => Sys2Proof.Machine.execRlaAbs a s
  | .bmi d => Sys2Proof.Machine.execBmi d s
  | .andIndy a => Sys2Proof.Machine.execAndIndy a s
  | .unl32 => Sys2Proof.Machine.execUnl32 s
  | .rlaIndy a => Sys2Proof.Machine.execRlaIndy a s
  | .dop34 a => Sys2Proof.Machine.execDop34 a s
  | .andZpx a => Sys2Proof.Machine.execAndZpx a s
  | .rolZpx a => Sys2Proof.Machine.execRolZpx a s
  | .rlaZpx a => Sys2Proof.Machine.execRlaZpx a s
  | .sec => Sys2Proof.Machine.execSec s
  | .andAbsy a => Sys2Proof.Machine.execAndAbsy a s
  | .nop1x3A => Sys2Proof.Machine.execNop1x3A s
  | .rlaAbsy a => Sys2Proof.Machine.execRlaAbsy a s
  | .top3C a => Sys2Proof.Machine.execTop3C a s
  | .andAbsx a => Sys2Proof.Machine.execAndAbsx a s
  | .rolAbsx a => Sys2Proof.Machine.execRolAbsx a s
  | .rlaAbsx a => Sys2Proof.Machine.execRlaAbsx a s
  | .rti => Sys2Proof.Machine.execRti s
  | .eorIndx a => Sys2Proof.Machine.execEorIndx a s
  | .unl42 => Sys2Proof.Machine.execUnl42 s
  | .sreIndx a => Sys2Proof.Machine.execSreIndx a s
  | .dop44 a => Sys2Proof.Machine.execDop44 a s
  | .eorZp a => Sys2Proof.Machine.execEorZp a s
  | .lsrZp a => Sys2Proof.Machine.execLsrZp a s
  | .sreZp a => Sys2Proof.Machine.execSreZp a s
  | .pha => Sys2Proof.Machine.execPha s
  | .eorImm v => Sys2Proof.Machine.execEorImm v s
  | .lsrAcc => Sys2Proof.Machine.execLsrAcc s
  | .unl4B => Sys2Proof.Machine.execUnl4B s
  | .jmpAbs a => Sys2Proof.Machine.execJmpAbs a s
  | .eorAbs a => Sys2Proof.Machine.execEorAbs a s
  | .lsrAbs a => Sys2Proof.Machine.execLsrAbs a s
  | .sreAbs a => Sys2Proof.Machine.execSreAbs a s
  | .bvc d => Sys2Proof.Machine.execBvc d s
  | .eorIndy a => Sys2Proof.Machine.execEorIndy a s
  | .unl52 => Sys2Proof.Machine.execUnl52 s
  | .sreIndy a => Sys2Proof.Machine.execSreIndy a s
  | .dop54 a => Sys2Proof.Machine.execDop54 a s
  | .eorZpx a => Sys2Proof.Machine.execEorZpx a s
  | .lsrZpx a => Sys2Proof.Machine.execLsrZpx a s
  | .sreZpx a => Sys2Proof.Machine.execSreZpx a s
  | .cli => Sys2Proof.Machine.execCli s
  | .eorAbsy a => Sys2Proof.Machine.execEorAbsy a s
  | .nop1x5A => Sys2Proof.Machine.execNop1x5A s
  | .sreAbsy a => Sys2Proof.Machine.execSreAbsy a s
  | .top5C a => Sys2Proof.Machine.execTop5C a s
  | .eorAbsx a => Sys2Proof.Machine.execEorAbsx a s
  | .lsrAbsx a => Sys2Proof.Machine.execLsrAbsx a s
  | .sreAbsx a => Sys2Proof.Machine.execSreAbsx a s
  | .rts => Sys2Proof.Machine.execRts s
  | .adcIndx a => Sys2Proof.Machine.execAdcIndx a s
  | .unl62 => Sys2Proof.Machine.execUnl62 s
  | .rraIndx a => Sys2Proof.Machine.execRraIndx a s
  | .dop64 a => Sys2Proof.Machine.execDop64 a s
  | .adcZp a => Sys2Proof.Machine.execAdcZp a s
  | .rorZp a => Sys2Proof.Machine.execRorZp a s
  | .rraZp a => Sys2Proof.Machine.execRraZp a s
  | .pla => Sys2Proof.Machine.execPla s
  | .adcImm v => Sys2Proof.Machine.execAdcImm v s
  | .rorAcc => Sys2Proof.Machine.execRorAcc s
  | .unl6B => Sys2Proof.Machine.execUnl6B s
  | .jmpInd a => Sys2Proof.Machine.execJmpInd a s
  | .adcAbs a => Sys2Proof.Machine.execAdcAbs a s
  | .rorAbs a => Sys2Proof.Machine.execRorAbs a s
  | .rraAbs a => Sys2Proof.Machine.execRraAbs a s
  | .bvs d => Sys2Proof.Machine.execBvs d s
  | .adcIndy a => Sys2Proof.Machine.execAdcIndy a s
  | .unl72 => Sys2Proof.Machine.execUnl72 s
  | .rraIndy a => Sys2Proof.Machine.execRraIndy a s
  | .dop74 a => Sys2Proof.Machine.execDop74 a s
  | .adcZpx a => Sys2Proof.Machine.execAdcZpx a s
  | .rorZpx a => Sys2Proof.Machine.execRorZpx a s
  | .rraZpx a => Sys2Proof.Machine.execRraZpx a s
  | .sei => Sys2Proof.Machine.execSei s
  | .adcAbsy a => Sys2Proof.Machine.execAdcAbsy a s
  | .nop1x7A => Sys2Proof.Machine.execNop1x7A s
  | .rraAbsy a => Sys2Proof.Machine.execRraAbsy a s
  | .top7C a => Sys2Proof.Machine.execTop7C a s
  | .adcAbsx a => Sys2Proof.Machine.execAdcAbsx a s
  | .rorAbsx a => Sys2Proof.Machine.execRorAbsx a s
  | .rraAbsx a => Sys2Proof.Machine.execRraAbsx a s
  | .dop80 v => Sys2Proof.Machine.execDop80 v s
  | .staIndx a => Sys2Proof.Machine.execStaIndx a s
  | .dop82 v => Sys2Proof.Machine.execDop82 v s
  | .saxIndx a => Sys2Proof.Machine.execSaxIndx a s
  | .styZp a => Sys2Proof.Machine.execStyZp a s
  | .staZp a => Sys2Proof.Machine.execStaZp a s
  | .stxZp a => Sys2Proof.Machine.execStxZp a s
  | .saxZp a => Sys2Proof.Machine.execSaxZp a s
  | .dey => Sys2Proof.Machine.execDey s
  | .dop89 v => Sys2Proof.Machine.execDop89 v s
  | .txa => Sys2Proof.Machine.execTxa s
  | .unl8B => Sys2Proof.Machine.execUnl8B s
  | .styAbs a => Sys2Proof.Machine.execStyAbs a s
  | .staAbs a => Sys2Proof.Machine.execStaAbs a s
  | .stxAbs a => Sys2Proof.Machine.execStxAbs a s
  | .saxAbs a => Sys2Proof.Machine.execSaxAbs a s
  | .bcc d => Sys2Proof.Machine.execBcc d s
  | .staIndy a => Sys2Proof.Machine.execStaIndy a s
  | .unl92 => Sys2Proof.Machine.execUnl92 s
  | .unl93 => Sys2Proof.Machine.execUnl93 s
  | .styZpx a => Sys2Proof.Machine.execStyZpx a s
  | .staZpx a => Sys2Proof.Machine.execStaZpx a s
  | .stxZpy a => Sys2Proof.Machine.execStxZpy a s
  | .saxZpy a => Sys2Proof.Machine.execSaxZpy a s
  | .tya => Sys2Proof.Machine.execTya s
  | .staAbsy a => Sys2Proof.Machine.execStaAbsy a s
  | .txs => Sys2Proof.Machine.execTxs s
  | .unl9B => Sys2Proof.Machine.execUnl9B s
  | .unl9C => Sys2Proof.Machine.execUnl9C s
  | .staAbsx a => Sys2Proof.Machine.execStaAbsx a s
  | .unl9E => Sys2Proof.Machine.execUnl9E s
  | .unl9F => Sys2Proof.Machine.execUnl9F s
  | .ldyImm v => Sys2Proof.Machine.execLdyImm v s
  | .ldaIndx a => Sys2Proof.Machine.execLdaIndx a s
  | .ldxImm v => Sys2Proof.Machine.execLdxImm v s
  | .laxIndx a => Sys2Proof.Machine.execLaxIndx a s
  | .ldyZp a => Sys2Proof.Machine.execLdyZp a s
  | .ldaZp a => Sys2Proof.Machine.execLdaZp a s
  | .ldxZp a => Sys2Proof.Machine.execLdxZp a s
  | .laxZp a => Sys2Proof.Machine.execLaxZp a s
  | .tay => Sys2Proof.Machine.execTay s
  | .ldaImm v => Sys2Proof.Machine.execLdaImm v s
  | .tax => Sys2Proof.Machine.execTax s
  | .unlAB => Sys2Proof.Machine.execUnlAB s
  | .ldyAbs a => Sys2Proof.Machine.execLdyAbs a s
  | .ldaAbs a => Sys2Proof.Machine.execLdaAbs a s
  | .ldxAbs a => Sys2Proof.Machine.execLdxAbs a s
  | .laxAbs a => Sys2Proof.Machine.execLaxAbs a s
  | .bcs d => Sys2Proof.Machine.execBcs d s
  | .ldaIndy a => Sys2Proof.Machine.execLdaIndy a s
  | .unlB2 => Sys2Proof.Machine.execUnlB2 s
  | .laxIndy a => Sys2Proof.Machine.execLaxIndy a s
  | .ldyZpx a => Sys2Proof.Machine.execLdyZpx a s
  | .ldaZpx a => Sys2Proof.Machine.execLdaZpx a s
  | .ldxZpy a => Sys2Proof.Machine.execLdxZpy a s
  | .laxZpy a => Sys2Proof.Machine.execLaxZpy a s
  | .clv => Sys2Proof.Machine.execClv s
  | .ldaAbsy a => Sys2Proof.Machine.execLdaAbsy a s
  | .tsx => Sys2Proof.Machine.execTsx s
  | .unlBB => Sys2Proof.Machine.execUnlBB s
  | .ldyAbsx a => Sys2Proof.Machine.execLdyAbsx a s
  | .ldaAbsx a => Sys2Proof.Machine.execLdaAbsx a s
  | .ldxAbsy a => Sys2Proof.Machine.execLdxAbsy a s
  | .laxAbsy a => Sys2Proof.Machine.execLaxAbsy a s
  | .cpyImm v => Sys2Proof.Machine.execCpyImm v s
  | .cmpIndx a => Sys2Proof.Machine.execCmpIndx a s
  | .dopC2 v => Sys2Proof.Machine.execDopC2 v s
  | .dcpIndx a => Sys2Proof.Machine.execDcpIndx a s
  | .cpyZp a => Sys2Proof.Machine.execCpyZp a s
  | .cmpZp a => Sys2Proof.Machine.execCmpZp a s
  | .decZp a => Sys2Proof.Machine.execDecZp a s
  | .dcpZp a => Sys2Proof.Machine.execDcpZp a s
  | .iny => Sys2Proof.Machine.execIny s
  | .cmpImm v => Sys2Proof.Machine.execCmpImm v s
  | .dex => Sys2Proof.Machine.execDex s
  | .unlCB => Sys2Proof.Machine.execUnlCB s
  | .cpyAbs a => Sys2Proof.Machine.execCpyAbs a s
  | .cmpAbs a => Sys2Proof.Machine.execCmpAbs a s
  | .decAbs a => Sys2Proof.Machine.execDecAbs a s
  | .dcpAbs a => Sys2Proof.Machine.execDcpAbs a s
  | .bne d => Sys2Proof.Machine.execBne d s
  | .cmpIndy a => Sys2Proof.Machine.execCmpIndy a s
  | .unlD2 => Sys2Proof.Machine.execUnlD2 s
  | .dcpIndy a => Sys2Proof.Machine.execDcpIndy a s
  | .dopD4 a => Sys2Proof.Machine.execDopD4 a s
  | .cmpZpx a => Sys2Proof.Machine.execCmpZpx a s
  | .decZpx a => Sys2Proof.Machine.execDecZpx a s
  | .dcpZpx a => Sys2Proof.Machine.execDcpZpx a s
  | .cld => Sys2Proof.Machine.execCld s
  | .cmpAbsy a => Sys2Proof.Machine.execCmpAbsy a s
  | .nop1xDA => Sys2Proof.Machine.execNop1xDA s
  | .dcpAbsy a => Sys2Proof.Machine.execDcpAbsy a s
  | .topDC a => Sys2Proof.Machine.execTopDC a s
  | .cmpAbsx a => Sys2Proof.Machine.execCmpAbsx a s
  | .decAbsx a => Sys2Proof.Machine.execDecAbsx a s
  | .dcpAbsx a => Sys2Proof.Machine.execDcpAbsx a s
  | .cpxImm v => Sys2Proof.Machine.execCpxImm v s
  | .sbcIndx a => Sys2Proof.Machine.execSbcIndx a s
  | .dopE2 v => Sys2Proof.Machine.execDopE2 v s
  | .iscIndx a => Sys2Proof.Machine.execIscIndx a s
  | .cpxZp a => Sys2Proof.Machine.execCpxZp a s
  | .sbcZp a => Sys2Proof.Machine.execSbcZp a s
  | .incZp a => Sys2Proof.Machine.execIncZp a s
  | .iscZp a => Sys2Proof.Machine.execIscZp a s
  | .inx => Sys2Proof.Machine.execInx s
  | .sbcImm v => Sys2Proof.Machine.execSbcImm v s
  | .nop => Sys2Proof.Machine.execNop s
  | .usbc v => Sys2Proof.Machine.execUsbc v s
  | .cpxAbs a => Sys2Proof.Machine.execCpxAbs a s
  | .sbcAbs a => Sys2Proof.Machine.execSbcAbs a s
  | .incAbs a => Sys2Proof.Machine.execIncAbs a s
  | .iscAbs a => Sys2Proof.Machine.execIscAbs a s
  | .beq d => Sys2Proof.Machine.execBeq d s
  | .sbcIndy a => Sys2Proof.Machine.execSbcIndy a s
  | .unlF2 => Sys2Proof.Machine.execUnlF2 s
  | .iscIndy a => Sys2Proof.Machine.execIscIndy a s
  | .dopF4 a => Sys2Proof.Machine.execDopF4 a s
  | .sbcZpx a => Sys2Proof.Machine.execSbcZpx a s
  | .incZpx a => Sys2Proof.Machine.execIncZpx a s
  | .iscZpx a => Sys2Proof.Machine.execIscZpx a s
  | .sed => Sys2Proof.Machine.execSed s
  | .sbcAbsy a => Sys2Proof.Machine.execSbcAbsy a s
  | .nop1xFA => Sys2Proof.Machine.execNop1xFA s
  | .iscAbsy a => Sys2Proof.Machine.execIscAbsy a s
  | .topFC a => Sys2Proof.Machine.execTopFC a s
  | .sbcAbsx a => Sys2Proof.Machine.execSbcAbsx a s
  | .incAbsx a => Sys2Proof.Machine.execIncAbsx a s
  | .iscAbsx a => Sys2Proof.Machine.execIscAbsx a s

end Sys2Proof.Machine
end

