-- ==== Sys2Proof/Machine/Step.lean ====
section
/-! DEFINITION. Machine/Step.lean: the machine's outer step (20_memory.md R100, 40_addressing_modes.md R160), and where a
program's bytes are placed for the step to fetch. -/

namespace Sys2Proof.Machine

/-- One outer step: one `ExecuteOp`, which is one interrupt service or one instruction, then three PPU dots for each of
its cycles (R100, R160, R407). -/
def step (s : State) : Host.Outcome State Fault Refusal :=
  let q := servicePending s
  if q.1 then .next (catchUp q.2)
  else
    let f := fetchInstr q.2
    match exec f.1 f.2 with
    | .next t => .next (catchUp t)
    | .fault r => .fault r
    | .refused r => .refused r

/-- `s` with an opcode-table word stored where the next step fetches its instruction. -/
def State.withFetchWord (s : State) (nbits w : Nat) : State :=
  let b := tableBytes nbits w
  placeAtPc (b.getD 0 0) (b.getD 1 0) (b.getD 2 0) s

/-- The events that come from outside the machine, between steps (00_scope.md R6, R7; 60_exceptions.md R401 to R403;
70_reset_and_hazards.md R440, R442). -/
inductive Event where
  /-- `Init`, power-on. -/
  | init
  /-- The console's `Reset`. -/
  | reset
  /-- The CPU interface's `NMI` request. -/
  | nmi
  /-- The CPU interface's `IRQ` request. -/
  | irq
  deriving DecidableEq, Repr

/-- The effect of an outside event, which takes no step. -/
def State.apply (s : State) : Event → State
  | .init => initMachine s
  | .reset => consoleReset s
  | .nmi => raiseNmi s
  | .irq => requestIrq s

/-- The events in order, then one step. -/
def stepAfter (es : List Event) (s : State) : Host.Outcome State Fault Refusal := step (es.foldl State.apply s)

end Sys2Proof.Machine
end

