-- ==== Sys2Proof/Safety.lean ====
section
/-! DEFINITION. Safety.lean: the machine's invariant, and the vocabulary in which the claims speak of what an instruction
changes and what it leaves alone. -/

namespace Sys2Proof.Machine

/-- A memory in canonical form whose keys are below `n`. -/
def Memory.good (n : Nat) (m : Memory) : Prop := m.wf = true ∧ m.below n = true

/-- The cartridge: at least one bank of each kind, "every map entry is a valid bank index" (R55, R444), and memories
inside their banks. -/
structure Cartridge.Inv (c : Cartridge) : Prop where
  prgBanks_pos : 0 < c.prgBanks
  chrBanks_pos : 0 < c.chrBanks
  prgMap_length : c.prgMap.length = 32
  chrMap_length : c.chrMap.length = 8
  prgMap_valid : c.prgMap.all (fun b => decide (b < c.prgBanks)) = true
  chrMap_valid : c.chrMap.all (fun b => decide (b < c.chrBanks)) = true
  prgRom_good : c.prgRom.good (1024 * c.prgBanks)
  prgRam_good : c.prgRam.good 0x2000
  chr_good : c.chr.good (1024 * c.chrBanks)

/-- The shape of a frame: 240 rows of 256 colours (R51). -/
def frameShape (f : List (List Rgb)) : Bool := f.length == 240 && f.all (fun row => row.length == 256)

/-- The PPU: the position lies on the grid of 262 scanlines of 341 dots (R45), the memories have their sizes (R46 to
R48), palette RAM holds nothing at a mirrored index (R109), the pipeline has eight entries of which only the first can
hold sprite 0 (R50, R377), and the buffers have their sizes (R51). -/
structure Ppu.Inv (p : Ppu) : Prop where
  scanline_lt : p.scanline < 262
  dot_lt : p.dot < 341
  ntA_good : p.ntA.good 0x400
  ntB_good : p.ntB.good 0x400
  palette_wf : p.palette.wf = true
  palette_keys : p.palette.all (fun c => palIndex c.1 == c.1) = true
  oam_good : p.oam.good 256
  secOam_good : p.secOam.good 32
  sprites_length : p.sprites.length = 8
  sprites_zero : (p.sprites.drop 1).all (fun e => !e.isSpriteZero) = true
  scanlineBuffer_length : p.scanlineBuffer.length = 256
  frame_shape : frameShape p.frame = true
  lastFrame_shape : p.lastFrame.all frameShape = true

/-- The machine's invariant: bit 5 of P is 1 (R25), and RAM, PPU and cartridge are as they must be. -/
structure State.Inv (s : State) : Prop where
  bit5 : flagR s.p = true
  ram_good : s.ram.good 0x800
  ppu : s.ppu.Inv
  cart : s.cart.Inv

/-- A CPU address of the PPU register window, 0x2000 to 0x3FFF (R73). -/
def inPpuWindow (a : Addr) : Prop := 0x2000 ≤ a.toNat ∧ a.toNat < 0x4000

/-- The CPU addresses at which a write is stored in a memory of the CPU's bus: internal RAM and PRG RAM (R71, R89). -/
def storesByte (a : Addr) : Prop := a.toNat < 0x2000 ∨ (0x6000 ≤ a.toNat ∧ a.toNat < 0x8000)

/-- The CPU addresses `b` whose byte a write at `a` replaces: in internal RAM those at the same offset (R72), in PRG RAM the
address itself (R89), and none for any other `a`. -/
def storedBytes (a b : Addr) : Prop :=
  (a.toNat < 0x2000 ∧ b.toNat < 0x2000 ∧ b.toNat % 0x800 = a.toNat % 0x800) ∨
    (0x6000 ≤ a.toNat ∧ a.toNat < 0x8000 ∧ b = a)

/-- The byte at every CPU address outside the PPU window, but those of which `stored` holds, reads as before. -/
def SameBytesBut (stored : Addr → Prop) (s t : State) : Prop :=
  ∀ a : Addr, ¬inPpuWindow a → ¬stored a → (busRead a t).1 = (busRead a s).1

/-- The byte at every CPU address outside the PPU window reads as before. -/
def SameBytes (s t : State) : Prop := SameBytesBut (fun _ => False) s t

/-- PPU memory reads as before: pattern tables, nametables, palette and OAM. -/
def SamePpuBytes (s t : State) : Prop :=
  (∀ a : PpuAddr, ppuRead t.cart t.ppu a = ppuRead s.cart s.ppu a) ∧ (∀ k : Nat, t.ppu.oam.read k = s.ppu.oam.read k)

/-- The bits of P outside `ks` are as before. -/
def SameFlagsBut (ks : List Nat) (p q : Byte) : Prop := ∀ k : Nat, k ∉ ks → q.getLsbD k = p.getLsbD k

/-- N and Z of `q` are those of the result `v` (R14), and every bit of `q` but 1 (Z), 7 (N) and those in `ks` is as in `p`. -/
def FlagsNZ (ks : List Nat) (v p q : Byte) : Prop :=
  flagN q = v.getLsbD 7 ∧ flagZ q = decide (v = 0) ∧ SameFlagsBut (1 :: 7 :: ks) p q

/-- X, Y, S and PC are the same. -/
def SameIndexPc (s t : State) : Prop := t.x = s.x ∧ t.y = s.y ∧ t.sp = s.sp ∧ t.pc = s.pc

/-- A, X, Y, S, P and PC are the same. -/
def SameRegisters (s t : State) : Prop := SameIndexPc s t ∧ t.a = s.a ∧ t.p = s.p

/-- RAM, cartridge, PPU, latch and count of free reads are the same: everything but the CPU registers and `OpCycles`. -/
def SameOutside (s t : State) : Prop :=
  t.ram = s.ram ∧ t.cart = s.cart ∧ t.ppu = s.ppu ∧ t.pending = s.pending ∧ t.freeReads = s.freeReads

/-- The operand of a read-type instruction `i` in state `s`: the byte read, and the state after the read (R163, R164). -/
def operandRead (i : Instr) (s : State) : Byte × State := readOperand i.operand (s.credit i.opcode)

/-- The effective address of an instruction in state `s`, with the page-crossing flag (R150). -/
def effectiveAddr (i : Instr) (s : State) : EffAddr := (effAddr i.operand s).1

/-- The frame of a read-type instruction: outside the CPU registers the machine is as the operand read leaves it, every
byte of memory reads as before, and the cycles are the base cycles and the page-crossing cycle (R163, R164). -/
def ReadsOnly (i : Instr) (s t : State) : Prop :=
  SameOutside (operandRead i s).2 t ∧ SameBytes s t ∧ SamePpuBytes s t ∧
    t.opCycles = baseCycles i.opcode + (effectiveAddr i s).crossed.toNat

/-- The frame of a write of `v` at `a` between `s` and `t`: the stored bytes hold `v`, every other byte reads as before, and
unless `a` is a PPU register or the DMA port the PPU and its memory are as before (R71, R72, R89). -/
def StoresOnly (a : Addr) (v : Byte) (s t : State) : Prop :=
  (storesByte a → (busRead a t).1 = v) ∧ SameBytesBut (storedBytes a) s t ∧
    (¬inPpuWindow a → a ≠ 0x4014#16 →
      t.ppu = s.ppu ∧ t.pending = s.pending ∧ t.freeReads = s.freeReads ∧ SamePpuBytes s t)

/-- The cycles of an instruction that writes at `a`: its base cycles, and 513 more at the DMA port (R166). -/
def writeCycles (i : Instr) (a : Addr) : Nat := baseCycles i.opcode + (if a = 0x4014#16 then 513 else 0)

/-- The frame of a read-modify-write that stores `r` at `a`: outside the CPU registers the machine is as one read of `a` and
then one write of it leave it (R82, R220), every byte but those stored reads as before, X, Y, S and PC are the same, and the
cycles are those of a write. -/
def ModifiesOnly (i : Instr) (a : Addr) (r : Byte) (s t : State) : Prop :=
  SameOutside (busWrite a r (busRead a s).2).2 t ∧ StoresOnly a r s t ∧ SameIndexPc s t ∧ t.opCycles = writeCycles i a

/-- Three bytes pushed: they stand at the three stack addresses from S down, S is three less, and every other byte reads as
before (R27, R415). -/
def PushesThree (hi lo status : Byte) (s t : State) : Prop :=
  (busRead (stackAddr s.sp) t).1 = hi ∧ (busRead (stackAddr (s.sp - 1)) t).1 = lo ∧
    (busRead (stackAddr (s.sp - 2)) t).1 = status ∧ t.sp = s.sp - 3 ∧
    SameBytesBut (fun b => storedBytes (stackAddr s.sp) b ∨ storedBytes (stackAddr (s.sp - 1)) b ∨
      storedBytes (stackAddr (s.sp - 2)) b) s t ∧
    t.ppu = s.ppu ∧ t.cart = s.cart ∧ t.freeReads = s.freeReads

/-- The word at a vector (R85, R416). -/
def vectorWord (v : Addr) (s : State) : Addr := word16 (busRead (v + 1) s).1 (busRead v s).1

/-- The position in the grid as one number, 0..89341 (R45). -/
def Ppu.position (p : Ppu) : Nat := 341 * p.scanline + p.dot

end Sys2Proof.Machine
end

