-- ==== Sys2Proof/WellFormed.lean ====
section
/-! DEFINITION. WellFormed.lean: the well-formedness of an instruction. An operand field has exactly the width of its
encoding (R122), so no operand value is out of range; the one check is that the spec gives the instruction a length. -/

namespace Sys2Proof

/-- The opcode table gives the instruction's length (R121, R132): every instruction but the 25 unlisted opcodes, whose
length is the open parameter `UNLISTED_LEN` (R131). The machine runs those too (Machine/Unofficial.lean). -/
def WellFormed (i : Instr) : Bool := i.mnemonic != .unl

end Sys2Proof
end

