-- ==== Sys2Proof/Certificates/Slice0/Obligations.lean ====
section
/-! DEFINITION. Certificates/Slice0/Obligations.lean: the statements for the provers. Each docstring names the rules of
spec/ it formalises, and every clause that is the spec's own decision (92_eei_decisions.md) or the model's choice (a log
entry). -/

open Sys2Proof Sys2Proof.Machine

/-! Encoding and the step -/

/-- Decoding the bytes of any instruction, followed by any bytes, gives the instruction and those bytes (R120 to R123,
R132), for every one of the 256 constructors and every operand value. -/
def Obligations.DecodeOfEncode : Prop :=
  ∀ (i : Instr) (rest : List Byte), decode (encode i ++ rest) = .ok (i, rest)

/-- Every list of bytes that decodes is the encoding of what it decodes to, followed by what is left over, so each word has
one meaning (R120 to R123, R127); and a list is rejected only when it is empty or ends inside the operand bytes. -/
def Obligations.EncodeOfDecode : Prop :=
  ∀ bs : List Byte,
    (∀ i rest, decode bs = .ok (i, rest) → encode i ++ rest = bs) ∧
    (∀ e, decode bs = .error e → bs = [] ∨ ∃ op rest, bs = op :: rest ∧ rest.length < operandCount op)

/-- R130: every opcode value decodes, whatever two bytes follow it, to an instruction of that opcode, and executing it
answers a next state. That the 25 unlisted opcodes run is the model's choice (log entry 4). -/
def Obligations.EveryOpcodeDispatched : Prop :=
  ∀ op b1 b2 : Byte, ∃ (i : Instr) (rest : List Byte),
    decode [op, b1, b2] = .ok (i, rest) ∧ i.opcode = op ∧ ∀ s : State, ∃ t, exec i s = .next t

/-- Words written out from R122, R125 and R126 decode to the instructions they stand for (sanity). The last clause, that
0x02 takes no operand byte from what `decode` reads, is the model's choice (log entry 4): R131 and R132 leave the length of
an unlisted opcode open. -/
def Obligations.DecodeWords : Prop :=
  decode [0xA9, 0x80] = .ok (.ldaImm 0x80, []) ∧
  decode [0x8D, 0x14, 0x40] = .ok (.staAbs 0x4014, []) ∧
  decode [0x6C, 0xFF, 0x02] = .ok (.jmpInd 0x02FF, []) ∧
  decode [0xB1, 0x20, 0xEA] = .ok (.ldaIndy 0x20, [0xEA]) ∧
  decode [0xF0, 0xFE] = .ok (.beq 0xFE, []) ∧
  decode [0x0A, 0x00] = .ok (.aslAcc, [0x00]) ∧
  decode [0x1C, 0xFF, 0x02] = .ok (.top1C 0x02FF, []) ∧
  decode [0xEB, 0x01] = .ok (.usbc 0x01, []) ∧
  decode [0x02, 0x60] = .ok (.unl02, [0x60])

/-- With nothing pending, when the bytes that a fetch reads at PC decode to `i`, the step is `exec i` in the state after
that fetch (PC past the bytes), followed by the PPU's catch-up (R160, R150, R100). Where those bytes lie outside the PPU
window, the fetch reads the bytes of memory at PC, PC + 1 and PC + 2 and changes nothing but PC. The byte count of an
instruction is what R121 gives its mode; nothing is assumed of `i`. That a step reads all the bytes before the instruction
acts is the model's reading (D7, log entry 10); that an unlisted opcode counts one byte is the model's choice (log entry
4). -/
def Obligations.StepRunsDecoded : Prop :=
  ∀ (s : State) (i : Instr), s.pending = .none →
    (∀ (bs : List Byte) (t : State), fetchBytes (encode i).length s = (bs, t) → decode bs = .ok (i, []) →
      ∀ u, exec i t = .next u → step s = .next (catchUp u)) ∧
    ((∀ k < (encode i).length, ¬inPpuWindow (s.pc + BitVec.ofNat 16 k) ∧
        (encode i)[k]? = some (busRead (s.pc + BitVec.ofNat 16 k) s).1) →
      ∀ u, exec i (s.setPc (s.pc + BitVec.ofNat 16 (encode i).length)) = .next u → step s = .next (catchUp u))

/-- What a step does first with a pending request (R160, R407, R410): a RESET, an NMI, or an IRQ found with I clear is
serviced in place of an instruction, by the operations whose effects `ResetService`, `NmiService` and `IrqService` state; an
IRQ found masked lets the instruction at PC run in the same step, the request being kept or dropped by `IRQ_MASKED_POLICY`
(R413, D3; a free value of the model, log entry 2). -/
def Obligations.StepServicesPending : Prop :=
  ∀ s : State,
    (s.pending = .reset → step s = .next (catchUp (serviceReset s))) ∧
    (s.pending = .nmi → step s = .next (catchUp (serviceNmi s))) ∧
    (s.pending = .irq → flagI s.p = false → step s = .next (catchUp (serviceIrq s))) ∧
    (s.pending = .irq → flagI s.p = true →
      ∃ q : Pending, (q = .irq ∨ q = .none) ∧
        ∀ u, exec (fetchInstr (s.setPending q)).1 (fetchInstr (s.setPending q)).2 = .next u → step s = .next (catchUp u))

/-- Every step of every state answers a next state (R130, R400, R435) and costs from 2 to 521 cycles (R124, R164 to R167,
R410). The upper bound is the model's: R461 names 520 as the longest step, but (indirect,X) and (indirect),Y forms with BASE
8 that modify 0x4014 cost 8 + 513 (log entry 20). -/
def Obligations.StepAnswersNext : Prop :=
  ∀ s : State, ∃ t, step s = .next t ∧ 2 ≤ t.opCycles ∧ t.opCycles ≤ 521

/-- R100: a step is one CPU step, during which the PPU's position and frame parity stand still, then exactly three dots for
each cycle of it. After a RESET service, an NMI service or an instruction alike. -/
def Obligations.StepDots : Prop :=
  ∀ s t : State, step s = .next t →
    ∃ u : State, u.ppu.scanline = s.ppu.scanline ∧ u.ppu.dot = s.ppu.dot ∧ u.ppu.oddFrame = s.ppu.oddFrame ∧
      u.opCycles = t.opCycles ∧ t = executeCycles (3 * u.opCycles) u

/-! Invariants -/

/-- Every step keeps the invariant: bit 5 of P is 1 (R25); RAM, PRG ROM, PRG RAM, CHR, nametables, palette, OAM and
secondary OAM are in canonical form and inside their sizes (R46 to R48, R55, R56); the position is on the grid (R45); every
map entry is a valid bank (R55); the sprite pipeline has eight entries, of which only the first can hold sprite 0 (R50,
R377); the buffers have their sizes (R51). -/
def Obligations.StepKeepsInv : Prop := ∀ s t : State, s.Inv → step s = .next t → t.Inv

/-- The invariant holds after reset. -/
def Obligations.ResetInv : Prop := State.reset.Inv

/-- Every outside event keeps the invariant, and `Init` gives a state in which bit 5 is set and the maps are valid even
where they were not before (R401 to R403, R440, R442). -/
def Obligations.EventsKeepInv : Prop :=
  (∀ (s : State) (e : Event), s.Inv → (s.apply e).Inv) ∧
  (∀ s : State, 0 < s.cart.prgBanks → 0 < s.cart.chrBanks →
    flagR (s.apply .init).p = true ∧
    (∀ i < 32, (s.apply .init).cart.prgMap[i]? = some (i % s.cart.prgBanks)) ∧
    (∀ i < 8, (s.apply .init).cart.chrMap[i]? = some (i % s.cart.chrBanks)))

/-- No step changes PRG ROM, the bank counts, the bank maps or the mirroring mode, nor CHR memory that is ROM (R55, R87,
R89, R90). -/
def Obligations.StepKeepsCartridge : Prop :=
  ∀ s t : State, step s = .next t →
    t.cart.prgRom = s.cart.prgRom ∧ t.cart.prgBanks = s.cart.prgBanks ∧ t.cart.chrBanks = s.cart.chrBanks ∧
    t.cart.prgMap = s.cart.prgMap ∧ t.cart.chrMap = s.cart.chrMap ∧ t.cart.mirroring = s.cart.mirroring ∧
    t.cart.chrIsRam = s.cart.chrIsRam ∧ t.cart.prgRamSize = s.cart.prgRamSize ∧
    (s.cart.chrIsRam = false → t.cart.chr = s.cart.chr)

/-- R25: no instruction and no service clears bit 5 of P; PLP and RTI set it whatever it was; the values assigned to P as a
whole are 0x34 at power-on, 0x22 at a RESET service, and the pulled byte with bit 5 set (bit 4 clear, D4) at PLP and RTI. -/
def Obligations.StatusBitFive : Prop :=
  (∀ (i : Instr) (s t : State), exec i s = .next t → flagR s.p = true → flagR t.p = true) ∧
  (∀ s t : State, step s = .next t → flagR s.p = true → flagR t.p = true) ∧
  (∀ s : State, ∃ t, exec .plp s = .next t ∧ t.p = ((busRead (stackAddr (s.sp + 1)) s).1 &&& 0xEF#8) ||| 0x20#8) ∧
  (∀ s : State, ∃ t, exec .rti s = .next t ∧ t.p = ((busRead (stackAddr (s.sp + 1)) s).1 &&& 0xEF#8) ||| 0x20#8) ∧
  (∀ s : State, (initMachine s).p = 0x34 ∧ (serviceReset s).p = 0x22)

/-! The CPU bus -/

/-- R72: for every address below 0x2000, a read and a write are those of the address modulo 0x800. -/
def Obligations.RamMirroring : Prop :=
  ∀ (a : Addr) (v : Byte) (s : State), a.toNat < 0x2000 →
    busRead a s = busRead (BitVec.ofNat 16 (a.toNat % 0x800)) s ∧
    busWrite a v s = busWrite (BitVec.ofNat 16 (a.toNat % 0x800)) v s

/-- A write outside the PPU window and the DMA port (R71, R72, R89): where RAM or PRG RAM is, the byte written is read back
at every address that reaches it and every other byte is as before; one byte of RAM, or one of PRG RAM, is all of the
machine that changes; anywhere else (the expansion area and PRG ROM included) nothing changes at all; no write costs extra
cycles. That a write to 0x4018 to 0x401F changes nothing is the spec's decision D20 (log entry 31). -/
def Obligations.PlainWrite : Prop :=
  ∀ (a b : Addr) (v : Byte) (s : State), ¬inPpuWindow a → a ≠ 0x4014#16 →
    (busWrite a v s).1 = 0 ∧ SameRegisters s (busWrite a v s).2 ∧
    (storedBytes a b → (busRead b (busWrite a v s).2).1 = v) ∧
    (¬inPpuWindow b → ¬storedBytes a b → (busRead b (busWrite a v s).2).1 = (busRead b s).1) ∧
    (a.toNat < 0x2000 → ∃ m : Memory, (busWrite a v s).2 = { s with ram := m } ∧
      ∀ k : Nat, m.read k = if k = a.toNat % 0x800 then v else s.ram.read k) ∧
    (0x6000 ≤ a.toNat → a.toNat < 0x8000 → ∃ m : Memory, (busWrite a v s).2 = { s with cart := { s.cart with prgRam := m } } ∧
      ∀ k : Nat, m.read k = if k = a.toNat - 0x6000 then v else s.cart.prgRam.read k) ∧
    (¬storesByte a → (busWrite a v s).2 = s)

/-- What a read from 0x4000 up returns, in each case without a side effect. R76: 0x4000 to 0x4017 read 0, 0x4014 included,
and a write there is ignored, but at 0x4014; the same of 0x4018 to 0x401F is the spec's decision D20 (log entry 31). R88:
0x4020 to 0x5FFF read 0; 0x6000 to 0x7FFF read the byte of PRG RAM at the address modulo 0x2000; 0x8000 to 0xFFFF read the
byte, at the address modulo 1024, of the PRG ROM bank that the map names for the 1 KiB slot; so with a 16 KiB cartridge, its
map as `Init` leaves it, 0xC000 to 0xFFFF mirrors 0x8000 to 0xBFFF. -/
def Obligations.IoStubs : Prop :=
  ∀ (a : Addr) (s : State),
    (0x4000 ≤ a.toNat → a.toNat < 0x4020 →
      busRead a s = (0, s) ∧ ∀ v : Byte, a ≠ 0x4014#16 → busWrite a v s = (0, s)) ∧
    (0x4020 ≤ a.toNat → a.toNat < 0x6000 → busRead a s = (0, s)) ∧
    (0x6000 ≤ a.toNat → a.toNat < 0x8000 → busRead a s = (s.cart.prgRam.read (a.toNat - 0x6000), s)) ∧
    (0x8000 ≤ a.toNat → ∀ bank : Nat, s.cart.prgMap[(a.toNat - 0x8000) / 1024]? = some bank →
      busRead a s = (s.cart.prgRom.read (1024 * bank + a.toNat % 1024), s)) ∧
    (0x8000 ≤ a.toNat → a.toNat < 0xC000 → s.cart.prgMap = (List.range 32).map (fun i => i % 16) →
      busRead a s = (s.cart.prgRom.read (a.toNat - 0x8000), s) ∧ busRead (a + 0x4000) s = busRead a s)

/-- R78: a write of `v` to 0x4014 costs 513 extra cycles and, for i from 0 to 255, reads the byte at `{v, i}` through the
bus and writes it to PPU register 4. When the page is not in the PPU window, byte i of the page lands at OAM address OAMAddr
+ i modulo 256 and nothing else changes. -/
def Obligations.OamDma : Prop :=
  ∀ (v : Byte) (s : State),
    busWrite 0x4014 v s =
      (513, (List.range 256).foldl (fun t i =>
        writeRegister 4 (busRead (BitVec.ofNat 16 (256 * v.toNat + i)) t).1 (busRead (BitVec.ofNat 16 (256 * v.toNat + i)) t).2) s) ∧
    ((v.toNat < 0x20 ∨ 0x40 ≤ v.toNat) →
      (∀ i < 256, (busWrite 0x4014 v s).2.ppu.oam.read ((s.ppu.oamAddr.toNat + i) % 256) =
        (busRead (BitVec.ofNat 16 (256 * v.toNat + i)) s).1) ∧
      ∃ m : Memory, (busWrite 0x4014 v s).2 = s.setPpu { s.ppu with oam := m })

/-- R27: a push stores at 0x0100 | S and then decrements S, a pop increments S and then reads, both wrapping in page 1; so a
pop after a push gives the byte back and S. A push stores nowhere else, a pop changes nothing but S. -/
def Obligations.StackPushPop : Prop :=
  ∀ (v : Byte) (s : State),
    (busRead (BitVec.ofNat 16 (0x100 + s.sp.toNat)) (push v s)).1 = v ∧
    (push v s).sp.toNat = (s.sp.toNat + 255) % 256 ∧
    SameBytesBut (storedBytes (BitVec.ofNat 16 (0x100 + s.sp.toNat))) s (push v s) ∧
    (∃ m : Memory, push v s = (s.setRam m).setSp (s.sp - 1)) ∧
    pop s = ((busRead (BitVec.ofNat 16 (0x100 + (s.sp.toNat + 1) % 256)) s).1, s.setSp (s.sp + 1)) ∧
    pop (push v s) = (v, (push v s).setSp s.sp)

/-- R83: a read changes nothing unless its address is in the PPU window at register 2 or 7; a read of register 2 clears the
VBL flag and `w`, sets the suppression of VBL at position (0, 0) and that of the NMI at (0, 0), (0, 1) and (0, 2) (R321; the
three positions are the spec's decision D18, log entry 29), and leaves them as they are elsewhere; one of register 7 can
change only `readBuffer` and `v`. A read of registers 0, 1, 3, 5, 6 has no side effect and returns a free value (R333, D12;
`freeReads` is the model's own counter, log entry 1). -/
def Obligations.ReadSideEffects : Prop :=
  ∀ (a : Addr) (s : State),
    (¬inPpuWindow a → (busRead a s).2 = s) ∧
    (inPpuWindow a → a.toNat % 8 = 4 → (busRead a s).2 = s) ∧
    (inPpuWindow a → a.toNat % 8 ≠ 2 → a.toNat % 8 ≠ 4 → a.toNat % 8 ≠ 7 →
      busRead a s = (Config.ppuWriteOnlyRead s.freeReads, s.tickFree)) ∧
    (inPpuWindow a → a.toNat % 8 = 2 →
      let cleared : Ppu := { s.ppu with vbl := false, w := false }
      let at0 (d : Nat) : Prop := s.ppu.scanline = 0 ∧ s.ppu.dot = d
      (at0 0 → (busRead a s).2 = s.setPpu { cleared with suppressVbl := true, suppressNmi := true }) ∧
      (at0 1 ∨ at0 2 → (busRead a s).2 = s.setPpu { cleared with suppressNmi := true }) ∧
      (¬(at0 0 ∨ at0 1 ∨ at0 2) → (busRead a s).2 = s.setPpu cleared)) ∧
    (inPpuWindow a → a.toNat % 8 = 7 → ∃ (b : Byte) (v : VramAddr),
      (busRead a s).2 = s.setPpu { s.ppu with readBuffer := b, v := v })

/-! The PPU's memory and registers -/

/-- The PPU's memory outside the nametables. R109: a write to a palette address is read back, as the full byte, at exactly
the palette addresses with the same index; 0x3F10, 0x3F14, 0x3F18 and 0x3F1C share theirs with the address 0x10 below. That
the 32 indices repeat up to 0x3FFF is the spec's decision D21 (log entry 32). R90: an address below 0x2000 reads the byte,
at the address modulo 1024, of the CHR bank that the map names for the 1 KiB window; a write there changes nothing but that
byte where CHR is RAM, and nothing at all where it is ROM. -/
def Obligations.PaletteAliases : Prop :=
  ∀ (c : Cartridge) (p : Ppu),
    (∀ (a b : PpuAddr) (v : Byte), 0x3F00 ≤ a.toNat → 0x3F00 ≤ b.toNat →
      let q := (ppuWrite c p a v).2
      let same (x y : Nat) : Prop := x % 32 = y % 32 ∨ (x % 4 = 0 ∧ y % 4 = 0 ∧ x % 16 = y % 16)
      (same a.toNat b.toNat → ppuRead c q b = v) ∧ (¬same a.toNat b.toNat → ppuRead c q b = ppuRead c p b)) ∧
    (∀ (a : PpuAddr) (v : Byte) (bank : Nat), a.toNat < 0x2000 → c.chrMap[a.toNat / 1024]? = some bank →
      let key := 1024 * bank + a.toNat % 1024
      ppuRead c p a = c.chr.read key ∧
      (c.chrIsRam = false → ppuWrite c p a v = (c, p)) ∧
      (c.chrIsRam = true → ∃ m : Memory, ppuWrite c p a v = ({ c with chr := m }, p) ∧
        ∀ k : Nat, m.read k = if k = key then v else c.chr.read k))

/-- R108: which nametable addresses share a byte in each mirroring mode: those at the same offset in quadrants of the same
page. Pages C and D of a four-screen cartridge read 0 and ignore writes. The addresses are 0x2000 to 0x3EFF: that 0x3000 to
0x3EFF decode by the same bits, and so mirror 0x2000 to 0x2EFF, is the spec's decision D21 (R110, log entry 32). -/
def Obligations.NametableMirroring : Prop :=
  ∀ (c : Cartridge) (p : Ppu) (a b : PpuAddr) (v : Byte),
    0x2000 ≤ a.toNat → a.toNat < 0x3F00 → 0x2000 ≤ b.toNat → b.toNat < 0x3F00 →
    let qa := a.toNat / 0x400 % 4
    let qb := b.toNat / 0x400 % 4
    let r := ppuWrite c p a v
    let samePage : Bool :=
      match c.mirroring with
      | .horizontal => qa / 2 == qb / 2
      | .vertical => qa % 2 == qb % 2
      | .oneScreenA => true
      | .oneScreenB => true
      | .fourScreen => qa == qb
    let stub (q : Nat) : Prop := c.mirroring = .fourScreen ∧ 2 ≤ q
    (stub qa → r = (c, p)) ∧ (stub qb → ppuRead c p b = 0) ∧
    (¬stub qa → samePage = true → a.toNat % 0x400 = b.toNat % 0x400 → ppuRead r.1 r.2 b = v) ∧
    (¬(samePage = true ∧ a.toNat % 0x400 = b.toNat % 0x400) → ppuRead r.1 r.2 b = ppuRead c p b)

/-- R320: a Status read returns VBL, sprite-0 hit and overflow in bits 7, 6 and 5, clears VBL and `w`, and leaves everything
else as it was, but for the suppression of VBL and NMI. Bits 4..0 of the answer are 0 by the spec's decision D13 (log entry
26). R321: a read at position (0, 0) suppresses VBL and the NMI, one at (0, 1) or (0, 2) the NMI; so after the first the VBL
flag is not set, and after each of the three no dot requests an NMI, in what is left of that frame if no register is
accessed. The three positions are the spec's decision D18 (log entry 29), the frame's length D11. -/
def Obligations.StatusRead : Prop :=
  ∀ (a : Addr) (s : State), inPpuWindow a → a.toNat % 8 = 2 →
    let p := s.ppu
    let r := busRead a s
    let n := if p.oddFrame = true ∧ p.bgEnable = true then 89341 else 89342
    r.1.getLsbD 7 = p.vbl ∧ r.1.getLsbD 6 = p.sprite0Hit ∧ r.1.getLsbD 5 = p.overflow ∧ r.1.toNat % 32 = 0 ∧
    r.2 = s.setPpu { p with
      vbl := false, w := false
      suppressVbl := p.suppressVbl || decide (p.position = 0)
      suppressNmi := p.suppressNmi || decide (p.scanline = 0 ∧ p.dot < 3) } ∧
    (p.scanline = 0 → p.dot = 0 → ∀ k ≤ n, (executeCycles k r.2).ppu.vbl = false) ∧
    (p.scanline = 0 → p.dot < 3 → ∀ k, k + p.dot < n → (executeCycles k r.2).ppu.requestsNmi = false)

/-- R313 to R318. A Ctrl write sets Ctrl, copies its low two bits into `t[11:10]`, leaves the rest of `t` and of the PPU,
and requests an NMI exactly when bit 7 goes from 0 to 1 while VBL is set: that it then always does is the spec's reading of
"may raise NMI" (R335, log entry 41). Mask and OAMAddr take the byte written; a Status write has no effect; an OAM Data
write stores the full byte at OAMAddr, leaves the other bytes of OAM and increments OAMAddr modulo 256; an OAM Data read
gives the byte at OAMAddr and has no side effect. -/
def Obligations.ControlAndOamRegisters : Prop :=
  ∀ (a : Addr) (v : Byte) (s : State), inPpuWindow a →
    (a.toNat % 8 = 0 → ∃ (t' : VramAddr) (q : Pending),
      busWrite a v s = (0, (s.setPpu { s.ppu with ctrl := v, t := t' }).setPending q) ∧
      (nametable t').toNat = v.toNat % 4 ∧ (∀ k : Nat, k ≠ 10 → k ≠ 11 → t'.getLsbD k = s.ppu.t.getLsbD k) ∧
      q = if s.ppu.ctrl.getLsbD 7 = false ∧ v.getLsbD 7 = true ∧ s.ppu.vbl = true then s.pending.requestNmi
        else s.pending) ∧
    (a.toNat % 8 = 1 → busWrite a v s = (0, s.setPpu { s.ppu with mask := v })) ∧
    (a.toNat % 8 = 2 → busWrite a v s = (0, s)) ∧
    (a.toNat % 8 = 3 → busWrite a v s = (0, s.setPpu { s.ppu with oamAddr := v })) ∧
    (a.toNat % 8 = 4 → ∃ m : Memory,
      busWrite a v s = (0, s.setPpu { s.ppu with oam := m, oamAddr := s.ppu.oamAddr + 1 }) ∧
      (∀ k : Nat, m.read k = if k = s.ppu.oamAddr.toNat then v else s.ppu.oam.read k)) ∧
    (a.toNat % 8 = 4 → busRead a s = (s.ppu.oam.read s.ppu.oamAddr.toNat, s))

/-- The first and second writes to registers 5 and 6 (R325, R326), which share `w`: the fields of `t` each writes, that it
leaves the other fields, and that only the second write to register 6 changes `v`. -/
def Obligations.ScrollAndAddressWrites : Prop :=
  ∀ (a : Addr) (val : Byte) (s : State), inPpuWindow a →
    let p := s.ppu
    (a.toNat % 8 = 5 → p.w = false → ∃ t' : VramAddr,
      busWrite a val s = (0, s.setPpu { p with fineX := val.setWidth 3, t := t', w := true }) ∧
      (coarseX t').toNat = val.toNat / 8 ∧ (∀ k : Nat, 5 ≤ k → t'.getLsbD k = p.t.getLsbD k)) ∧
    (a.toNat % 8 = 5 → p.w = true → ∃ t' : VramAddr,
      busWrite a val s = (0, s.setPpu { p with t := t', w := false }) ∧
      (coarseY t').toNat = val.toNat / 8 ∧ (fineY t').toNat = val.toNat % 8 ∧
      coarseX t' = coarseX p.t ∧ nametable t' = nametable p.t) ∧
    (a.toNat % 8 = 6 → p.w = false → ∃ t' : VramAddr,
      busWrite a val s = (0, s.setPpu { p with t := t', w := true }) ∧
      t'.toNat = p.t.toNat % 256 + 256 * (val.toNat % 64)) ∧
    (a.toNat % 8 = 6 → p.w = true → ∃ t' : VramAddr,
      busWrite a val s = (0, s.setPpu { p with t := t', v := t', w := false }) ∧
      t'.toNat = p.t.toNat / 256 * 256 + val.toNat)

/-- R330 to R332: a VRAM Data write stores at `v & 0x3FFF`; a read below 0x3F00 returns the buffer and refills it from `v &
0x3FFF`; a read from 0x3F00 up returns the palette byte at once and fills the buffer from 0x1000 below; each then adds 1, or
32 if Ctrl bit 2 is set, to `v` modulo 0x8000, and changes nothing else. -/
def Obligations.VramData : Prop :=
  ∀ (a : Addr) (val : Byte) (s : State), inPpuWindow a → a.toNat % 8 = 7 →
    let p := s.ppu
    let at14 : PpuAddr := BitVec.ofNat 14 (p.v.toNat % 0x4000)
    let below : PpuAddr := BitVec.ofNat 14 (p.v.toNat % 0x4000 - 0x1000)
    let next : VramAddr := BitVec.ofNat 15 ((p.v.toNat + if p.ctrl.getLsbD 2 = true then 32 else 1) % 0x8000)
    busWrite a val s =
      (0, (s.setCart (ppuWrite s.cart p at14 val).1).setPpu { (ppuWrite s.cart p at14 val).2 with v := next }) ∧
    (p.v.toNat % 0x4000 < 0x3F00 →
      busRead a s = (p.readBuffer, s.setPpu { p with readBuffer := ppuRead s.cart p at14, v := next })) ∧
    (0x3F00 ≤ p.v.toNat % 0x4000 →
      busRead a s = (ppuRead s.cart p at14, s.setPpu { p with readBuffer := ppuRead s.cart p below, v := next }))

/-! The PPU's dots -/

/-- R393 (with R351): from position (0, 0) a frame lasts 89342 dots, or 89341 when the frame is odd and background rendering
is enabled; after that many dots the position is (0, 0) again and the parity has changed, and at no dot before is it (0, 0).
That the parity changes at the wrap to scanline 0 is the spec's decision D11. -/
def Obligations.FrameLength : Prop :=
  ∀ s : State, s.ppu.scanline = 0 → s.ppu.dot = 0 →
    let n := if s.ppu.oddFrame = true ∧ s.ppu.bgEnable = true then 89341 else 89342
    (executeCycles n s).ppu.position = 0 ∧ (executeCycles n s).ppu.oddFrame = !s.ppu.oddFrame ∧
    ∀ k, 0 < k → k < n → (executeCycles k s).ppu.position ≠ 0

/-- R354 (with R352): from position (0, 0), with VBL not suppressed and no register access between the dots, the VBL flag is
1 after each of the first 6820 dots and 0 after every later dot of the frame, whose length is that of `FrameLength`; the
sprite-0 and overflow flags are 0 after dot 6821. -/
def Obligations.VblDots : Prop :=
  ∀ s : State, s.ppu.scanline = 0 → s.ppu.dot = 0 → s.ppu.suppressVbl = false →
    let n := if s.ppu.oddFrame = true ∧ s.ppu.bgEnable = true then 89341 else 89342
    (∀ k, 1 ≤ k → k ≤ 6820 → (executeCycles k s).ppu.vbl = true) ∧
    (∀ k, 6821 ≤ k → k ≤ n → (executeCycles k s).ppu.vbl = false) ∧
    (executeCycles 6821 s).ppu.sprite0Hit = false ∧ (executeCycles 6821 s).ppu.overflow = false

/-- R353 (with R335): "With Ctrl bit 7 set and no Status reads, running the PPU for one full frame raises NMI exactly once
(at the VBL set dot + 2)": of the dots of a frame from position (0, 0) only the third requests it, and none does when Ctrl
bit 7 is clear or the NMI is suppressed; the request is the CPU's NMI request (R402). -/
def Obligations.NmiOncePerFrame : Prop :=
  ∀ s : State, s.ppu.scanline = 0 → s.ppu.dot = 0 →
    let n := if s.ppu.oddFrame = true ∧ s.ppu.bgEnable = true then 89341 else 89342
    (∀ k, k < n → ((executeCycles k s).ppu.requestsNmi = true ↔
      k = 2 ∧ s.ppu.ctrl.getLsbD 7 = true ∧ s.ppu.suppressNmi = false)) ∧
    (∀ t : State, (executeDot t).pending = if t.ppu.requestsNmi = true then t.pending.requestNmi else t.pending) ∧
    (executeCycles 3 s).ppu.suppressVbl = false ∧ (executeCycles 3 s).ppu.suppressNmi = false

/-- The picture and its delivery, dot by dot. On scanlines 21 to 260, dots 0 to 255, entry `dot` of the scanline buffer
becomes the pixel: the background's (R361, R367), bits fine-X of the shift registers, or the sprite's (R385, R388), that of
the first entry of the pipeline with an opaque pixel there, as the multiplexer chooses (R386); dot 0 first clears the buffer
(R357); a pixel of sprite 0 over an opaque background pixel, at a dot up to 254, sets the sprite-0 flag (R387), which else
changes only at (20, 0). At dot 256 of those scanlines row scanline - 21 of the frame becomes the buffer's colours, through
palette RAM (R390). Other dots leave buffer and frame. R392: the frame is handed to the sink at the last dot of scanline 260
and so exactly once per frame, whether or not rendering is on; `framesOut` and `lastFrame` are the model's record of that
output (log entry 13). The clip polarity is the spec's decision D14 (log entry 27), that a disabled layer gives no pixel D17
(28), that pixels are drawn on those scanlines D22 (33), the moment of the conversion D23 (34); the colours are free values
(log entry 3). -/
def Obligations.FrameDelivered : Prop :=
  (∀ s : State, s.ppu.scanlineBuffer.length = 256 → s.ppu.frame.length = 240 →
    let p := s.ppu
    let q := (executeDot s).ppu
    let visible : Prop := 21 ≤ p.scanline ∧ p.scanline ≤ 260
    let bit (r : BitVec 16) : Nat := (r.getLsbD p.fineX.toNat).toNat
    let bg : Nat :=
      if p.mask.getLsbD 3 = false ∨ (p.mask.getLsbD 1 = true ∧ p.dot < 8) ∨ 2 * bit p.bgHi + bit p.bgLo = 0 then 0
      else 8 * bit p.palHi + 4 * bit p.palLo + 2 * bit p.bgHi + bit p.bgLo
    let pat (e : SpriteEntry) : Nat :=
      if e.valid = true ∧ e.xPos.toNat ≤ p.dot ∧ p.dot ≤ e.xPos.toNat + 7 then
        2 * (e.high.getLsbD (e.xPos.toNat + 7 - p.dot)).toNat + (e.low.getLsbD (e.xPos.toNat + 7 - p.dot)).toNat
      else 0
    let winner : Option SpriteEntry :=
      if p.mask.getLsbD 4 = true ∧ (p.mask.getLsbD 2 = false ∨ 8 ≤ p.dot) then p.sprites.find? (fun e => decide (pat e ≠ 0))
      else none
    let pixel : Nat :=
      match winner with
      | some e =>
        if bg % 4 = 0 ∨ e.front = true ∨ p.mask.getLsbD 3 = false then 16 + 4 * e.palette.toNat + pat e else bg
      | none => bg
    (∀ x : Nat, q.scanlineBuffer[x]? =
      if visible ∧ p.dot < 256 ∧ x = p.dot then some (BitVec.ofNat 5 pixel)
      else if visible ∧ p.dot = 0 ∧ x < 256 then some 0
      else p.scanlineBuffer[x]?) ∧
    (q.sprite0Hit = true ↔
      ¬(p.scanline = 20 ∧ p.dot = 0) ∧
        (p.sprite0Hit = true ∨ (visible ∧ p.dot < 255 ∧ bg % 4 ≠ 0 ∧ ∃ e, winner = some e ∧ e.isSpriteZero = true))) ∧
    (∀ r : Nat, q.frame[r]? =
      if visible ∧ p.dot = 256 ∧ r + 21 = p.scanline then
        some (p.scanlineBuffer.map (fun x => Config.paletteRgb
          (BitVec.ofNat 6 ((ppuRead s.cart p (BitVec.ofNat 14 (0x3F00 + x.toNat))).toNat % 64))))
      else p.frame[r]?)) ∧
  (∀ t : State, (executeDot t).ppu.framesOut =
      t.ppu.framesOut + (if t.ppu.scanline = 260 ∧ t.ppu.dot = 340 then 1 else 0) ∧
    (t.ppu.scanline = 260 → t.ppu.dot = 340 → (executeDot t).ppu.lastFrame = some t.ppu.frame)) ∧
  (∀ s : State, s.ppu.scanline = 0 → s.ppu.dot = 0 →
    ∀ n, n = (if s.ppu.oddFrame = true ∧ s.ppu.bgEnable = true then 89341 else 89342) →
      (executeCycles n s).ppu.framesOut = s.ppu.framesOut + 1)

/-- The frame of the dots (R350, R354 to R392): no number of dots changes a CPU register, RAM, the cartridge, a nametable,
the palette, OAM, Ctrl, Mask, `t`, fine-X, `w` or the read buffer. With rendering off, `v`, secondary OAM, the latches and
the shift registers are left alone too (R360; the gating of the pipelines and reloads by rendering is the spec's decisions
D22 and D24). -/
def Obligations.DotsLeave : Prop :=
  ∀ (n : Nat) (s : State),
    let t := executeCycles n s
    SameRegisters s t ∧ t.opCycles = s.opCycles ∧ t.ram = s.ram ∧ t.cart = s.cart ∧ t.freeReads = s.freeReads ∧
    t.ppu.ntA = s.ppu.ntA ∧ t.ppu.ntB = s.ppu.ntB ∧ t.ppu.palette = s.ppu.palette ∧ t.ppu.oam = s.ppu.oam ∧
    t.ppu.ctrl = s.ppu.ctrl ∧ t.ppu.mask = s.ppu.mask ∧ t.ppu.t = s.ppu.t ∧ t.ppu.fineX = s.ppu.fineX ∧
    t.ppu.w = s.ppu.w ∧ t.ppu.readBuffer = s.ppu.readBuffer ∧
    (s.ppu.rendering = false →
      t.ppu.v = s.ppu.v ∧ t.ppu.secOam = s.ppu.secOam ∧ (t.ppu.overflow = true → s.ppu.overflow = true) ∧
      t.ppu.latchLo = s.ppu.latchLo ∧ t.ppu.latchHi = s.ppu.latchHi ∧ t.ppu.latchPal = s.ppu.latchPal ∧
      t.ppu.bgLo = s.ppu.bgLo ∧ t.ppu.bgHi = s.ppu.bgHi ∧ t.ppu.palLo = s.ppu.palLo ∧ t.ppu.palHi = s.ppu.palHi)

/-- The sprite pipeline. On scanlines 20 to 260 with rendering on, R375: dot 0 sets every byte of secondary OAM to 0xFF and
forgets sprite 0. R376: at dot 64 the first eight sprites in range (0 ≤ fy ≤ h - 1 with fy = scanline + 1 - 21 - (Y + 1)),
in index order, are copied to secondary OAM, the rest of which is kept; the overflow flag is set exactly when there are more
than eight; sprite 0 is remembered exactly when it is in range. R377: at dot 260 entry k of the pipeline takes slot k of
secondary OAM: an empty slot (all 0xFF) makes it invalid (the valid bit is the spec's decision D19), another gives the two
planes at the pattern address of its row, flipped as the attribute says, palette, priority, column and sprite-0 mark;
nothing else changes at that dot but the position. R352: the dot at (0, 0) makes every entry invalid and OAMAddr 0, whether
or not rendering is on. No other dot changes the pipeline or OAMAddr. A row outside 0..h-1, in a slot left from another
scanline, gives an address modulo 0x4000 (the model's choice, log entry 8). That the pipeline runs on those scanlines and
only when rendering is on is the spec's decision D22. -/
def Obligations.SpriteEvaluation : Prop :=
  (∀ s : State, 20 ≤ s.ppu.scanline → s.ppu.scanline ≤ 260 → s.ppu.rendering = true →
      let p := s.ppu
      let q := (executeDot s).ppu
      let h : Int := if p.ctrl.getLsbD 5 = true then 16 else 8
      let row (y : Byte) : Int := (p.scanline : Int) + 1 - 21 - (y.toNat + 1)
      (p.dot = 0 → (∀ j < 32, q.secOam.read j = 0xFF) ∧ q.sprite0InRange = false) ∧
      (p.dot = 64 →
        let fy (i : Nat) : Int := row (p.oam.read (4 * i))
        let found := (List.range 64).filter (fun i => decide (0 ≤ fy i ∧ fy i ≤ h - 1))
        q.overflow = (p.overflow || decide (8 < found.length)) ∧
        q.sprite0InRange = (p.sprite0InRange || decide (0 ∈ found)) ∧
        (∀ n k i, n < 8 → k < 4 → found[n]? = some i → q.secOam.read (4 * n + k) = p.oam.read (4 * i + k)) ∧
        (∀ j, 4 * min 8 found.length ≤ j → q.secOam.read j = p.secOam.read j)) ∧
      (p.dot = 260 → q = { p with sprites := q.sprites, dot := 261 } ∧ q.sprites.length = p.sprites.length ∧
        ∀ (k : Nat) (e : SpriteEntry), p.sprites[k]? = some e →
          let y := p.secOam.read (4 * k)
          let tile := p.secOam.read (4 * k + 1)
          let attr := p.secOam.read (4 * k + 2)
          let x := p.secOam.read (4 * k + 3)
          let empty : Prop := y = 0xFF ∧ tile = 0xFF ∧ attr = 0xFF ∧ x = 0xFF
          let fy : Int := if attr.getLsbD 7 = true then h - 1 - row y else row y
          let a : Int :=
            if h = 8 then (if p.ctrl.getLsbD 3 = true then 0x1000 else 0) + 16 * tile.toNat + fy
            else 0x1000 * (tile.toNat % 2 : Nat) + 32 * (tile.toNat / 2 : Nat) + (if 7 < fy then fy + 8 else fy)
          let column (j : Nat) : Nat := if attr.getLsbD 6 = true then 7 - j else j
          (empty → q.sprites[k]? = some { e with valid := false }) ∧
          (¬empty → ∃ f : SpriteEntry, q.sprites[k]? = some f ∧
            (∀ j < 8, f.low.getLsbD j = (ppuRead s.cart p (BitVec.ofInt 14 a)).getLsbD (column j) ∧
              f.high.getLsbD j = (ppuRead s.cart p (BitVec.ofInt 14 (a + 8))).getLsbD (column j)) ∧
            f.palette.toNat = attr.toNat % 4 ∧ f.front = !attr.getLsbD 5 ∧ f.xPos = x ∧
            f.isSpriteZero = (decide (k = 0) && p.sprite0InRange) ∧ f.valid = true))) ∧
  (∀ s : State,
    let p := s.ppu
    let q := (executeDot s).ppu
    let start : Prop := p.scanline = 0 ∧ p.dot = 0
    let fetch : Prop := 20 ≤ p.scanline ∧ p.scanline ≤ 260 ∧ p.rendering = true ∧ p.dot = 260
    (start → q.oamAddr = 0 ∧ q.sprites = p.sprites.map (fun e => { e with valid := false })) ∧
    (¬start → q.oamAddr = p.oamAddr) ∧ (¬start → ¬fetch → q.sprites = p.sprites))

/-- What a dot does to `v`. Its increments are moves over the 64 x 60 tile plane of four nametables: coarse-X with the
horizontal nametable bit counts modulo 64 (R368); fine-Y, coarse-Y and the vertical nametable bit count modulo 480 when
coarse-Y is below 30, the bit toggling exactly where 29 wraps (R369); each leaves the other coordinate. That coarse-Y 30
runs on to 31 and 31 to 0 without a toggle is the spec's decision D25. With rendering on, on scanlines 20 to 260, coarse-X
is incremented at phase-offset 7 of a fetch region (R368), dot 256 increments fine-Y and takes coarse-X and the horizontal
nametable bit from `t` (R369, R355), and dot 303 of scanline 20 copies `t` (R355); no other dot changes `v`. The scanlines
and the gating are the spec's decisions D22 and D24 (log entries 33, 35). -/
def Obligations.AddressIncrements : Prop :=
  (∀ v : VramAddr,
      let col (v : VramAddr) : Nat := v.toNat % 32 + 32 * (v.toNat / 0x400 % 2)
      let row (v : VramAddr) : Nat := v.toNat / 0x1000 + 8 * (v.toNat / 32 % 32) + 240 * (v.toNat / 0x800 % 2)
      let vert (v : VramAddr) : Nat := v.toNat / 0x800 % 2
      col (incCoarseX v) = (col v + 1) % 64 ∧ row (incCoarseX v) = row v ∧ vert (incCoarseX v) = vert v ∧
      col (incFineY v) = col v ∧
      (v.toNat / 32 % 32 < 30 → row (incFineY v) = (row v + 1) % 480 ∧
        vert (incFineY v) = if v.toNat / 32 % 32 = 29 ∧ v.toNat / 0x1000 = 7 then 1 - vert v else vert v) ∧
      (v.toNat / 32 % 32 = 30 → row (incFineY v) = row v + 1 ∧ vert (incFineY v) = vert v) ∧
      (v.toNat / 32 % 32 = 31 → vert (incFineY v) = vert v ∧
        row (incFineY v) = if v.toNat / 0x1000 = 7 then 240 * vert v else row v + 1)) ∧
  (∀ s : State,
    let p := s.ppu
    let v' := (executeDot s).ppu.v
    let active : Prop := 20 ≤ p.scanline ∧ p.scanline ≤ 260 ∧ p.rendering = true
    let fetch : Prop := (p.dot < 256 ∨ (320 ≤ p.dot ∧ p.dot < 336)) ∧ p.dot % 8 = 7
    (active → fetch → v' = incCoarseX p.v) ∧
    (active → p.dot = 256 → ∀ k < 15,
      v'.getLsbD k = if k < 5 ∨ k = 10 then p.t.getLsbD k else (incFineY p.v).getLsbD k) ∧
    (active → p.scanline = 20 → p.dot = 303 → v' = p.t) ∧
    (¬(active ∧ (fetch ∨ p.dot = 256 ∨ (p.scanline = 20 ∧ p.dot = 303))) → v' = p.v))

/-- The background pipeline. In a fetch region with rendering on, at phase-offset 7 (R363) the nametable byte is read at
0x2000 | (v & 0x0FFF), the attribute byte at the base + 0x3C0 + 8 * (coarse-Y / 4) + coarse-X / 4, the palette is the two
attribute bits of the tile's quad, and the planes are read at the pattern table + 16 * tile + fine-Y and 8 above; then
coarse-X is incremented (R368). Each dot shifts the four registers right by one (R365), at phase-offset 0 after the latch
has replaced their high bytes (R364), tile bytes bit-reversed and palette bits repeated eight times. Every other dot leaves
latch and registers. The scanlines, the gating and the shifts on dots 320 to 335 are the spec's decision D22 (log entry
33). -/
def Obligations.FetchBatch : Prop :=
  ∀ s : State,
    let p := s.ppu
    let q := (executeDot s).ppu
    let running : Prop := 20 ≤ p.scanline ∧ p.scanline ≤ 260 ∧ p.rendering = true ∧
      (p.dot < 256 ∨ (320 ≤ p.dot ∧ p.dot < 336))
    let shifted (r r' : BitVec 16) (high : Nat → Bool) : Prop := ∀ j < 16,
      r'.getLsbD j = if p.dot % 8 = 0 ∧ 7 ≤ j ∧ j ≤ 14 then high (14 - j) else r.getLsbD (j + 1)
    (running → p.dot % 8 = 7 →
      let x := p.v.toNat % 32
      let y := p.v.toNat / 32 % 32
      let nt := p.v.toNat / 0x400 % 4
      let tile := ppuRead s.cart p (BitVec.ofNat 14 (0x2000 + p.v.toNat % 0x1000))
      let attr := ppuRead s.cart p (BitVec.ofNat 14 (0x2000 + 0x400 * nt + 0x3C0 + 8 * (y / 4) + x / 4))
      let plane := (if p.ctrl.getLsbD 4 = true then 0x1000 else 0) + 16 * tile.toNat + p.v.toNat / 0x1000
      q.latchPal.toNat = attr.toNat / 2 ^ (2 * (x % 4 / 2) + 4 * (y % 4 / 2)) % 4 ∧
      q.latchLo = ppuRead s.cart p (BitVec.ofNat 14 plane) ∧
      q.latchHi = ppuRead s.cart p (BitVec.ofNat 14 (plane + 8)) ∧
      q.v = incCoarseX p.v) ∧
    (running →
      shifted p.bgLo q.bgLo (fun j => p.latchLo.getLsbD j) ∧ shifted p.bgHi q.bgHi (fun j => p.latchHi.getLsbD j) ∧
      shifted p.palLo q.palLo (fun _ => p.latchPal.getLsbD 0) ∧ shifted p.palHi q.palHi (fun _ => p.latchPal.getLsbD 1)) ∧
    (¬(running ∧ p.dot % 8 = 7) → q.latchLo = p.latchLo ∧ q.latchHi = p.latchHi ∧ q.latchPal = p.latchPal) ∧
    (¬running → q.bgLo = p.bgLo ∧ q.bgHi = p.bgHi ∧ q.palLo = p.palLo ∧ q.palHi = p.palHi)

/-! Interrupts, reset and power-on -/

/-- R404: what is pending after a request, for each of the four things that can be pending and each of the three
requests. -/
def Obligations.RequestPriority : Prop :=
  ∀ s : State,
    (s.apply .reset).pending = .reset ∧
    (s.pending = .none → (s.apply .nmi).pending = .nmi ∧ (s.apply .irq).pending = .irq) ∧
    (s.pending = .irq → (s.apply .nmi).pending = .nmi ∧ (s.apply .irq).pending = .irq) ∧
    (s.pending = .nmi → (s.apply .nmi).pending = .nmi ∧ (s.apply .irq).pending = .nmi) ∧
    (s.pending = .reset → (s.apply .nmi).pending = .reset ∧ (s.apply .irq).pending = .reset)

/-- R411: a step that finds RESET pending services it: A, X and Y are 0, S is 0xFF, P is 0x22, PC is the word at 0xFFFC, 7
cycles are charged; nothing is pushed and nothing else changes before the PPU's 21 dots. That nothing is pending after the
service is the spec's decision D9 (R410, log entry 24). -/
def Obligations.ResetService : Prop :=
  ∀ s : State, s.pending = .reset → ∃ u : State,
    step s = .next (executeCycles 21 u) ∧
    u = { s with a := 0, x := 0, y := 0, sp := 0xFF, p := 0x22, pc := vectorWord 0xFFFC s, opCycles := 7, pending := .none }

/-- R412, R415, R416: a step that finds NMI pending pushes PCH, the masked PCL and P with B clear, clears D, and goes to the
word at 0xFFFA at a cost of 7 cycles; I and the stored B, A, X and Y are as before. The mask 0xF0 is the spec's decision D2,
the clearing of the latch D9. -/
def Obligations.NmiService : Prop :=
  ∀ s : State, s.pending = .nmi → ∃ u : State,
    step s = .next (executeCycles 21 u) ∧
    PushesThree (hiByte s.pc) (loByte s.pc &&& 0xF0#8) (s.p &&& 0xEF#8) s u ∧
    u.pc = vectorWord 0xFFFA s ∧ flagD u.p = false ∧ SameFlagsBut [3] s.p u.p ∧
    u.a = s.a ∧ u.x = s.x ∧ u.y = s.y ∧ u.opCycles = 7 ∧ u.pending = .none

/-- R413, R415, R416: a step that finds IRQ pending with I clear pushes PCH, PCL and P with B clear, clears D, sets I, and
goes to the word at 0xFFFE at a cost of 7 cycles; A, X and Y are as before. The clearing of the latch is the spec's decision
D9. -/
def Obligations.IrqService : Prop :=
  ∀ s : State, s.pending = .irq → flagI s.p = false → ∃ u : State,
    step s = .next (executeCycles 21 u) ∧
    PushesThree (hiByte s.pc) (loByte s.pc) (s.p &&& 0xEF#8) s u ∧
    u.pc = vectorWord 0xFFFE s ∧ flagD u.p = false ∧ flagI u.p = true ∧ SameFlagsBut [2, 3] s.p u.p ∧
    u.a = s.a ∧ u.x = s.x ∧ u.y = s.y ∧ u.opCycles = 7 ∧ u.pending = .none

/-- R246, R425: RTI undoes an entry. After an IRQ or BRK entry it resumes at the PC that was saved, after an NMI entry at
that PC with its low four bits clear (R412, D2), in each case with S as before the entry and P as before it, but for B clear
and bit 5 set (D4). -/
def Obligations.ReturnAfterEntry : Prop :=
  ∀ s : State,
    (∃ t, exec .rti (serviceNmi s) = .next t ∧
      t.pc = (s.pc &&& 0xFFF0#16) ∧ t.sp = s.sp ∧ t.p = (s.p &&& 0xEF#8) ||| 0x20#8) ∧
    (∃ t, exec .rti (serviceIrq s) = .next t ∧ t.pc = s.pc ∧ t.sp = s.sp ∧ t.p = (s.p &&& 0xEF#8) ||| 0x20#8) ∧
    (∃ u t, exec .brk s = .next u ∧ exec .rti u = .next t ∧
      t.pc = s.pc + 1 ∧ t.sp = s.sp ∧ t.p = (s.p &&& 0xEF#8) ||| 0x20#8)

/-- The two resets. R32, R440 (with R53, R61): power-on over any memories gives A = X = Y = 0, S = 0xFF, P = 0x34, PC the
word at 0xFFFC, 7 cycles, the maps at identity modulo the bank counts, and every register, latch, flag and pipeline of the
PPU 0. Nothing pending is the spec's decision D9 (log entry 24), the values of the PPU D11 (25, which also names the reading
that all registers of a sprite entry are 0, not its valid bit alone), no catch-up D16 (25). That `Init` leaves RAM, PRG and
CHR memory, nametables, palette, OAM, secondary OAM, buffers and `freeReads` as they are is the model's choice (log entry
12): the spec leaves the contents at power-on open (D10). R442: the console's Reset gives the PPU the same values at once,
requests a RESET of the CPU (R401), and changes nothing else: no memory, no map, no CPU register. -/
def Obligations.PowerOn : Prop :=
  ∀ s : State,
    let fresh : Ppu := { s.ppu with
      ctrl := 0, mask := 0, vbl := false, sprite0Hit := false, overflow := false, oamAddr := 0, v := 0, t := 0, fineX := 0
      w := false, readBuffer := 0, scanline := 0, dot := 0, oddFrame := false, suppressVbl := false, suppressNmi := false
      latchLo := 0, latchHi := 0, latchPal := 0, bgLo := 0, bgHi := 0, palLo := 0, palHi := 0
      sprites := List.replicate 8
        { low := 0, high := 0, palette := 0, front := false, xPos := 0, isSpriteZero := false, valid := false }
      sprite0InRange := false }
    let t := s.apply .init
    t.a = 0 ∧ t.x = 0 ∧ t.y = 0 ∧ t.sp = 0xFF ∧ t.p = 0x34 ∧ t.pc = vectorWord 0xFFFC t ∧ t.opCycles = 7 ∧
    t.pending = .none ∧ t.ram = s.ram ∧ t.freeReads = s.freeReads ∧
    t.cart = { s.cart with
      prgMap := (List.range 32).map (fun i => i % s.cart.prgBanks)
      chrMap := (List.range 8).map (fun i => i % s.cart.chrBanks) } ∧
    t.ppu = fresh ∧
    s.apply .reset = { s with pending := .reset, ppu := fresh }

/-! Addressing -/

/-- The address calculators (R150 to R161), the operand bytes having been fetched: the address each mode gives, as a number,
and whether it crosses a page; that every mode but IND changes nothing; that IND reads its pointer's high byte from the same
page (R157). That a branch compares the next instruction's address with its target is the spec's decision D8 (R165, log
entry 23). -/
def Obligations.EffectiveAddress : Prop :=
  ∀ s : State,
    let byteAt (k : Nat) : Nat := (busRead (BitVec.ofNat 16 k) s).1.toNat
    let is (o : Operand) (n : Nat) (base : Nat) : Prop :=
      effAddr o s = (⟨some (BitVec.ofNat 16 n), decide (n / 256 ≠ base / 256)⟩, s)
    (∀ o, o = .impl ∨ o = .acc → effAddr o s = (⟨none, false⟩, s)) ∧
    (∀ v, effAddr (.imm v) s = (⟨some (s.pc - 1), false⟩, s)) ∧
    (∀ b, is (.zp b) b.toNat 0) ∧
    (∀ b, is (.zpx b) ((b.toNat + s.x.toNat) % 256) 0) ∧
    (∀ b, is (.zpy b) ((b.toNat + s.y.toNat) % 256) 0) ∧
    (∀ a, effAddr (.abs a) s = (⟨some a, false⟩, s)) ∧
    (∀ a, is (.absx a) ((a.toNat + s.x.toNat) % 65536) a.toNat) ∧
    (∀ a, is (.absy a) ((a.toNat + s.y.toNat) % 65536) a.toNat) ∧
    (∀ b, let k := (b.toNat + s.x.toNat) % 256
      effAddr (.indx b) s = (⟨some (BitVec.ofNat 16 (byteAt k + 256 * byteAt ((k + 1) % 256))), false⟩, s)) ∧
    (∀ b, let base := byteAt b.toNat + 256 * byteAt ((b.toNat + 1) % 256)
      is (.indy b) ((base + s.y.toNat) % 65536) base) ∧
    (∀ d, is (.rel d) (((s.pc.toNat : Int) + d.toInt) % 65536).toNat s.pc.toNat) ∧
    (∀ a, let lo := busRead a s
      let hi := busRead (BitVec.ofNat 16 (256 * (a.toNat / 256) + (a.toNat + 1) % 256)) lo.2
      effAddr (.ind a) s = (⟨some (BitVec.ofNat 16 (lo.1.toNat + 256 * hi.1.toNat)), false⟩, hi.2))

/-- The operand of a read-type instruction (R163, R164): an immediate is the byte fetched; otherwise it is one bus read at
the effective address. Either way `OpCycles` is the base cycles and, for a crossed page, one more. That a crossed page costs
one cycle is the spec's decision D8 (log entry 23); that an immediate is the byte already fetched is the model's reading
(R152, D7; log entries 9 and 10). -/
def Obligations.OperandRead : Prop :=
  ∀ (i : Instr) (s : State),
    (∀ v, i.operand = .imm v → operandRead i s = (v, s.credit i.opcode)) ∧
    (∀ a, (effectiveAddr i s).ea = some a → (∀ v, i.operand ≠ .imm v) → i.mnemonic ≠ .jmp →
      operandRead i s = busRead a ((s.credit i.opcode).addCycles (effectiveAddr i s).crossed.toNat))

/-! The instructions -/

/-- R171, R172, R173, R283: LDA, LDX, LDY and LAX load their operand and set N and Z from it; nothing else changes but by
the read. Constructors: ldaIndx, ldaZp, ldaImm, ldaAbs, ldaIndy, ldaZpx, ldaAbsy, ldaAbsx, ldxImm, ldxZp, ldxAbs, ldxZpy,
ldxAbsy, ldyImm, ldyZp, ldyAbs, ldyZpx, ldyAbsx, laxIndx, laxZp, laxAbs, laxIndy, laxZpy, laxAbsy. -/
def Obligations.LoadResult : Prop :=
  ∀ (i : Instr) (s : State),
    let m := (operandRead i s).1
    (i.mnemonic = .lda → ∃ t, exec i s = .next t ∧
      t.a = m ∧ FlagsNZ [] m s.p t.p ∧ SameIndexPc s t ∧ ReadsOnly i s t) ∧
    (i.mnemonic = .ldx → ∃ t, exec i s = .next t ∧
      t.x = m ∧ FlagsNZ [] m s.p t.p ∧ t.a = s.a ∧ t.y = s.y ∧ t.sp = s.sp ∧ t.pc = s.pc ∧ ReadsOnly i s t) ∧
    (i.mnemonic = .ldy → ∃ t, exec i s = .next t ∧
      t.y = m ∧ FlagsNZ [] m s.p t.p ∧ t.a = s.a ∧ t.x = s.x ∧ t.sp = s.sp ∧ t.pc = s.pc ∧ ReadsOnly i s t) ∧
    (i.mnemonic = .lax → ∃ t, exec i s = .next t ∧
      t.a = m ∧ t.x = m ∧ FlagsNZ [] m s.p t.p ∧ t.y = s.y ∧ t.sp = s.sp ∧ t.pc = s.pc ∧ ReadsOnly i s t)

/-- R174, R175, R176, R284: STA, STX, STY and SAX write A, X, Y and A AND X at the effective address, which they do not
read; no register and no flag changes, and every byte but those stored reads as before. Constructors: staIndx, staZp,
staAbs, staIndy, staZpx, staAbsy, staAbsx, stxZp, stxAbs, stxZpy, styZp, styAbs, styZpx, saxIndx, saxZp, saxAbs, saxZpy. -/
def Obligations.StoreResult : Prop :=
  ∀ (i : Instr) (s : State) (v : Byte) (a : Addr),
    (i.mnemonic, v) ∈ [(.sta, s.a), (.stx, s.x), (.sty, s.y), (.sax, s.a &&& s.x)] → (effectiveAddr i s).ea = some a →
    ∃ t, exec i s = .next t ∧
      SameOutside (busWrite a v s).2 t ∧ StoresOnly a v s t ∧ SameRegisters s t ∧ t.opCycles = writeCycles i a

/-- R177 to R182, R227 to R230: the transfers and the register increments and decrements change their register, N and Z (TXS
no flag) and nothing else, in 2 cycles. -/
def Obligations.RegisterResult : Prop :=
  ∀ s : State,
    (∃ q, exec .tax s = .next { s with x := s.a, p := q, opCycles := 2 } ∧ FlagsNZ [] s.a s.p q) ∧
    (∃ q, exec .tay s = .next { s with y := s.a, p := q, opCycles := 2 } ∧ FlagsNZ [] s.a s.p q) ∧
    (∃ q, exec .txa s = .next { s with a := s.x, p := q, opCycles := 2 } ∧ FlagsNZ [] s.x s.p q) ∧
    (∃ q, exec .tya s = .next { s with a := s.y, p := q, opCycles := 2 } ∧ FlagsNZ [] s.y s.p q) ∧
    (∃ q, exec .tsx s = .next { s with x := s.sp, p := q, opCycles := 2 } ∧ FlagsNZ [] s.sp s.p q) ∧
    exec .txs s = .next { s with sp := s.x, opCycles := 2 } ∧
    (∃ q, exec .inx s = .next { s with x := s.x + 1, p := q, opCycles := 2 } ∧ FlagsNZ [] (s.x + 1) s.p q) ∧
    (∃ q, exec .iny s = .next { s with y := s.y + 1, p := q, opCycles := 2 } ∧ FlagsNZ [] (s.y + 1) s.p q) ∧
    (∃ q, exec .dex s = .next { s with x := s.x - 1, p := q, opCycles := 2 } ∧ FlagsNZ [] (s.x - 1) s.p q) ∧
    (∃ q, exec .dey s = .next { s with y := s.y - 1, p := q, opCycles := 2 } ∧ FlagsNZ [] (s.y - 1) s.p q)

/-- R185 to R188: PHA and PHP store A, or P with bits 4 and 5 set, at 0x0100 | S and decrement S; PLA and PLP increment S
and load A with N and Z, or P with bit 4 clear and bit 5 set, from 0x0100 | S; nothing else changes. What PHP and PLP do
with bit 4 is the spec's decision D4. -/
def Obligations.StackInstructions : Prop :=
  ∀ s : State,
    let top : Addr := BitVec.ofNat 16 (0x100 + s.sp.toNat)
    let pulled : Byte := (busRead (BitVec.ofNat 16 (0x100 + (s.sp.toNat + 1) % 256)) s).1
    (∃ m, exec .pha s = .next { s with ram := m, sp := s.sp - 1, opCycles := 3 } ∧
      StoresOnly top s.a s { s with ram := m }) ∧
    (∃ m, exec .php s = .next { s with ram := m, sp := s.sp - 1, opCycles := 3 } ∧
      StoresOnly top (s.p ||| 0x30#8) s { s with ram := m }) ∧
    (∃ q, exec .pla s = .next { s with a := pulled, sp := s.sp + 1, p := q, opCycles := 4 } ∧ FlagsNZ [] pulled s.p q) ∧
    exec .plp s = .next { s with sp := s.sp + 1, p := (pulled &&& 0xEF#8) ||| 0x20#8, opCycles := 4 }

/-- R201: ADC adds its operand and the carry to A; N and Z are the result's, C is the carry out, V is set exactly when the
signed sum lies outside -128..127; D is not read. Constructors: adcIndx, adcZp, adcImm, adcAbs, adcIndy, adcZpx, adcAbsy,
adcAbsx. -/
def Obligations.AddResult : Prop :=
  ∀ (i : Instr) (s : State), i.mnemonic = .adc →
    let m := (operandRead i s).1
    let c := (flagC s.p).toNat
    let r := s.a.toNat + m.toNat + c
    ∃ t, exec i s = .next t ∧
      t.a.toNat = r % 256 ∧ flagN t.p = decide (128 ≤ r % 256) ∧ flagZ t.p = decide (r % 256 = 0) ∧
      flagC t.p = decide (255 < r) ∧ flagV t.p = decide (s.a.toInt + m.toInt + c < -128 ∨ 127 < s.a.toInt + m.toInt + c) ∧
      SameFlagsBut [0, 1, 6, 7] s.p t.p ∧ SameIndexPc s t ∧ ReadsOnly i s t

/-- R202, R285: SBC and its alias USBC subtract their operand and the borrow from A; N and Z are the result's, C is "no
borrow", V is set exactly when the signed difference lies outside -128..127 (that is, when A and M differ in sign and the
result's sign differs from A's); D is not read; the result and the flags are those of ADC with M ^ 0xFF. Constructors:
sbcIndx, sbcZp, sbcImm, sbcAbs, sbcIndy, sbcZpx, sbcAbsy, sbcAbsx, usbc. -/
def Obligations.SubtractResult : Prop :=
  ∀ (i : Instr) (s : State), i.mnemonic = .sbc ∨ i.mnemonic = .usbc →
    let m := (operandRead i s).1
    let b : Int := 1 - (flagC s.p).toNat
    let r : Int := s.a.toNat - m.toNat - b
    ∃ t, exec i s = .next t ∧
      (t.a.toNat : Int) = r % 256 ∧ flagN t.p = decide (128 ≤ r % 256) ∧ flagZ t.p = decide (r % 256 = 0) ∧
      flagC t.p = decide (0 ≤ r) ∧ flagV t.p = decide (s.a.toInt - m.toInt - b < -128 ∨ 127 < s.a.toInt - m.toInt - b) ∧
      SameFlagsBut [0, 1, 6, 7] s.p t.p ∧ SameIndexPc s t ∧ ReadsOnly i s t ∧
      t.a = adcResult s.a (m ^^^ 0xFF#8) s.p ∧ t.p = adcFlags s.a (m ^^^ 0xFF#8) s.p

/-- R211: D has no effect on any computation. For every instruction but PHP and BRK, which push P, changing D beforehand
changes D afterwards (or not even that: SED, CLD, PLP, RTI) and nothing else. -/
def Obligations.DecimalIgnored : Prop :=
  ∀ (i : Instr) (s t : State) (d : Bool), i.mnemonic ≠ .php → i.mnemonic ≠ .brk → exec i s = .next t →
    ∃ q : Byte, exec i (s.setP (putD s.p d)) = .next (t.setP q) ∧ SameFlagsBut [3] t.p q

/-- R203, R204, R205: AND, ORA and EOR combine A with their operand and set N and Z. Constructors: andIndx, andZp, andImm,
andAbs, andIndy, andZpx, andAbsy, andAbsx, oraIndx, oraZp, oraImm, oraAbs, oraIndy, oraZpx, oraAbsy, oraAbsx, eorIndx,
eorZp, eorImm, eorAbs, eorIndy, eorZpx, eorAbsy, eorAbsx. -/
def Obligations.LogicResult : Prop :=
  ∀ (i : Instr) (s : State) (f : Byte → Byte → Byte),
    (i.mnemonic = .and ∧ f = fun a m => a &&& m) ∨ (i.mnemonic = .ora ∧ f = fun a m => a ||| m) ∨
      (i.mnemonic = .eor ∧ f = fun a m => a ^^^ m) →
    let r := f s.a (operandRead i s).1
    ∃ t, exec i s = .next t ∧ t.a = r ∧ FlagsNZ [] r s.p t.p ∧ SameIndexPc s t ∧ ReadsOnly i s t

/-- R206: BIT sets Z from A AND M, N from bit 7 of M and V from bit 6 of M; A is not changed. Constructors: bitZp,
bitAbs. -/
def Obligations.BitResult : Prop :=
  ∀ (i : Instr) (s : State), i.mnemonic = .bit →
    let m := (operandRead i s).1
    ∃ t, exec i s = .next t ∧
      flagZ t.p = decide (s.a &&& m = 0) ∧ flagN t.p = m.getLsbD 7 ∧ flagV t.p = m.getLsbD 6 ∧
      SameFlagsBut [1, 6, 7] s.p t.p ∧ t.a = s.a ∧ SameIndexPc s t ∧ ReadsOnly i s t

/-- R207, R208, R209: CMP, CPX and CPY set N and Z from register - M and C from register ≥ M, unsigned; V and every register
are not changed. Constructors: cmpIndx, cmpZp, cmpImm, cmpAbs, cmpIndy, cmpZpx, cmpAbsy, cmpAbsx, cpxImm, cpxZp, cpxAbs,
cpyImm, cpyZp, cpyAbs. -/
def Obligations.CompareResult : Prop :=
  ∀ (i : Instr) (s : State) (r : Byte), (i.mnemonic, r) ∈ [(.cmp, s.a), (.cpx, s.x), (.cpy, s.y)] →
    let m := (operandRead i s).1
    ∃ t, exec i s = .next t ∧
      FlagsNZ [0] (r - m) s.p t.p ∧ flagC t.p = decide (m.toNat ≤ r.toNat) ∧
      t.a = s.a ∧ SameIndexPc s t ∧ ReadsOnly i s t

/-- R221 to R224, accumulator forms: ASL, LSR, ROL and ROR of A, as numbers, with the bit shifted out in C and N and Z from
the result; no memory is touched. -/
def Obligations.ShiftAccumulator : Prop :=
  ∀ s : State,
    let c := (flagC s.p).toNat
    ∀ (i : Instr) (n : Nat) (out : Bool),
      (i = .aslAcc ∧ n = 2 * s.a.toNat % 256 ∧ out = decide (128 ≤ s.a.toNat)) ∨
      (i = .lsrAcc ∧ n = s.a.toNat / 2 ∧ out = decide (s.a.toNat % 2 = 1)) ∨
      (i = .rolAcc ∧ n = (2 * s.a.toNat + c) % 256 ∧ out = decide (128 ≤ s.a.toNat)) ∨
      (i = .rorAcc ∧ n = s.a.toNat / 2 + 128 * c ∧ out = decide (s.a.toNat % 2 = 1)) →
      ∃ q : Byte, exec i s = .next { s with a := BitVec.ofNat 8 n, p := q, opCycles := 2 } ∧
        FlagsNZ [0] (BitVec.ofNat 8 n) s.p q ∧ flagC q = out

/-- R221 to R226, memory forms: ASL, LSR, ROL, ROR, INC and DEC read the byte at the effective address once and write the
result there once; N and Z are the result's, C is the bit shifted out (INC and DEC leave C and V); A is not changed.
Constructors: the zero-page, zero-page,X, absolute and absolute,X forms of ASL, LSR, ROL and ROR, and incZp, incAbs, incZpx,
incAbsx, decZp, decAbs, decZpx, decAbsx. -/
def Obligations.ModifyResult : Prop :=
  ∀ (i : Instr) (s : State) (a : Addr) (n : Nat) (out : Bool),
    let m := (busRead a s).1.toNat
    let c := (flagC s.p).toNat
    (effectiveAddr i s).ea = some a →
    (i.mnemonic = .asl ∧ n = 2 * m % 256 ∧ out = decide (128 ≤ m)) ∨
      (i.mnemonic = .lsr ∧ n = m / 2 ∧ out = decide (m % 2 = 1)) ∨
      (i.mnemonic = .rol ∧ n = (2 * m + c) % 256 ∧ out = decide (128 ≤ m)) ∨
      (i.mnemonic = .ror ∧ n = m / 2 + 128 * c ∧ out = decide (m % 2 = 1)) ∨
      (i.mnemonic = .inc ∧ n = (m + 1) % 256 ∧ out = flagC s.p) ∨
      (i.mnemonic = .dec ∧ n = (m + 255) % 256 ∧ out = flagC s.p) →
    ∃ t, exec i s = .next t ∧ ModifiesOnly i a (BitVec.ofNat 8 n) s t ∧ t.a = s.a ∧
      FlagsNZ [0] (BitVec.ofNat 8 n) s.p t.p ∧ flagC t.p = out

/-- R286, R288, R289, R290: DCP, SLO, RLA and SRE modify the byte at the effective address, as DEC, ASL, ROL and LSR do, and
then compare A with, or OR, AND, EOR into A, the byte stored. Constructors: dcpIndx, dcpZp, dcpAbs, dcpIndy, dcpZpx,
dcpAbsy, dcpAbsx, sloIndx, sloZp, sloAbs, sloIndy, sloZpx, sloAbsy, sloAbsx, rlaIndx, rlaZp, rlaAbs, rlaIndy, rlaZpx,
rlaAbsy, rlaAbsx, sreIndx, sreZp, sreAbs, sreIndy, sreZpx, sreAbsy, sreAbsx. -/
def Obligations.CombinedLogicResult : Prop :=
  ∀ (i : Instr) (s : State) (a : Addr),
    let m := (busRead a s).1.toNat
    let c := (flagC s.p).toNat
    (effectiveAddr i s).ea = some a →
    (i.mnemonic = .dcp → ∃ t, exec i s = .next t ∧ ∃ r : Byte, r.toNat = (m + 255) % 256 ∧ ModifiesOnly i a r s t ∧
      t.a = s.a ∧ FlagsNZ [0] (s.a - r) s.p t.p ∧ flagC t.p = decide (r.toNat ≤ s.a.toNat)) ∧
    (i.mnemonic = .slo → ∃ t, exec i s = .next t ∧ ∃ r : Byte, r.toNat = 2 * m % 256 ∧ ModifiesOnly i a r s t ∧
      t.a = s.a ||| r ∧ FlagsNZ [0] t.a s.p t.p ∧ flagC t.p = decide (128 ≤ m)) ∧
    (i.mnemonic = .rla → ∃ t, exec i s = .next t ∧ ∃ r : Byte, r.toNat = (2 * m + c) % 256 ∧ ModifiesOnly i a r s t ∧
      t.a = s.a &&& r ∧ FlagsNZ [0] t.a s.p t.p ∧ flagC t.p = decide (128 ≤ m)) ∧
    (i.mnemonic = .sre → ∃ t, exec i s = .next t ∧ ∃ r : Byte, r.toNat = m / 2 ∧ ModifiesOnly i a r s t ∧
      t.a = s.a ^^^ r ∧ FlagsNZ [0] t.a s.p t.p ∧ flagC t.p = decide (m % 2 = 1))

/-- R287, R291: ISC increments the byte at the effective address and subtracts it from A with the borrow; RRA rotates it
right through the carry and adds it to A with the carry just shifted out. Constructors: iscIndx, iscZp, iscAbs, iscIndy,
iscZpx, iscAbsy, iscAbsx, rraIndx, rraZp, rraAbs, rraIndy, rraZpx, rraAbsy, rraAbsx. -/
def Obligations.CombinedArithmeticResult : Prop :=
  ∀ (i : Instr) (s : State) (a : Addr),
    let m := (busRead a s).1.toNat
    (effectiveAddr i s).ea = some a →
    (i.mnemonic = .isc → ∃ t, exec i s = .next t ∧ ∃ r : Byte, r.toNat = (m + 1) % 256 ∧ ModifiesOnly i a r s t ∧
      let b : Int := 1 - (flagC s.p).toNat
      let d : Int := s.a.toNat - r.toNat - b
      (t.a.toNat : Int) = d % 256 ∧ FlagsNZ [0, 6] t.a s.p t.p ∧ flagC t.p = decide (0 ≤ d) ∧
      flagV t.p = decide (s.a.toInt - r.toInt - b < -128 ∨ 127 < s.a.toInt - r.toInt - b)) ∧
    (i.mnemonic = .rra → ∃ t, exec i s = .next t ∧ ∃ r : Byte, r.toNat = m / 2 + 128 * (flagC s.p).toNat ∧
      ModifiesOnly i a r s t ∧
      let c := m % 2
      let d := s.a.toNat + r.toNat + c
      t.a.toNat = d % 256 ∧ FlagsNZ [0, 6] t.a s.p t.p ∧ flagC t.p = decide (255 < d) ∧
      flagV t.p = decide (s.a.toInt + r.toInt + c < -128 ∨ 127 < s.a.toInt + r.toInt + c))

/-- R241 to R244: JMP goes to its address, or to the word at its pointer, whose high byte comes from the pointer's own page;
JSR pushes the high and the low byte of PC - 1 and goes to its address; RTS pulls a word and goes one past it. No flag
changes; what else each changes is named. -/
def Obligations.JumpResult : Prop :=
  ∀ (a : Addr) (s : State),
    let pulled (k : Nat) : Byte := (busRead (BitVec.ofNat 16 (0x100 + (s.sp.toNat + k) % 256)) s).1
    exec (.jmpAbs a) s = .next { s with pc := a, opCycles := 3 } ∧
    (let lo := busRead a (s.credit 0x6C)
     let hi := busRead (BitVec.ofNat 16 (256 * (a.toNat / 256) + (a.toNat + 1) % 256)) lo.2
     exec (.jmpInd a) s = .next (hi.2.setPc (BitVec.ofNat 16 (lo.1.toNat + 256 * hi.1.toNat))) ∧
     SameBytes s hi.2 ∧ SamePpuBytes s hi.2 ∧ SameRegisters s hi.2 ∧ hi.2.opCycles = 5) ∧
    (∃ m, exec (.jsr a) s = .next { s with ram := m, sp := s.sp - 2, pc := a, opCycles := 6 } ∧
      (busRead (stackAddr s.sp) { s with ram := m }).1 = hiByte (s.pc - 1) ∧
      (busRead (stackAddr (s.sp - 1)) { s with ram := m }).1 = loByte (s.pc - 1) ∧
      SameBytesBut (fun b => storedBytes (stackAddr s.sp) b ∨ storedBytes (stackAddr (s.sp - 1)) b) s { s with ram := m }) ∧
    exec .rts s = .next { s with sp := s.sp + 2, pc := word16 (pulled 2) (pulled 1) + 1, opCycles := 6 }

/-- R245, R415, R420: BRK, with PC past its opcode, skips a byte and enters through the word at 0xFFFE, pushing PCH, PCL and
P with B set; no flag changes (I, D and the stored B included; of B that is the spec's decision D4), nor the latch. R246:
RTI pulls P (bit 4 clear, D4, and bit 5 set), PCL and PCH and goes there. -/
def Obligations.BreakAndReturn : Prop :=
  ∀ s : State,
    let pulled (k : Nat) : Byte := (busRead (BitVec.ofNat 16 (0x100 + (s.sp.toNat + k) % 256)) s).1
    (∃ t, exec .brk s = .next t ∧
      PushesThree (hiByte (s.pc + 1)) (loByte (s.pc + 1)) (s.p ||| 0x10#8) s t ∧
      t.pc = vectorWord 0xFFFE s ∧ t.p = s.p ∧ t.a = s.a ∧ t.x = s.x ∧ t.y = s.y ∧ t.pending = s.pending ∧
      t.opCycles = 7) ∧
    exec .rti s = .next { s with
      sp := s.sp + 3, p := (pulled 1 &&& 0xEF#8) ||| 0x20#8, pc := word16 (pulled 3) (pulled 2), opCycles := 6 }

/-- R250 to R258, R161, R165: each branch, with PC past it, goes to PC + displacement when its flag is as it asks, in 3
cycles or, where the high byte changes, 4; else nothing changes, in 2. The two addresses compared are the spec's decision
D8. -/
def Obligations.BranchResult : Prop :=
  ∀ (d : Byte) (s : State) (i : Instr) (taken : Bool),
    (i, taken) ∈ [(.bpl d, !flagN s.p), (.bmi d, flagN s.p), (.bvc d, !flagV s.p), (.bvs d, flagV s.p),
      (.bcc d, !flagC s.p), (.bcs d, flagC s.p), (.bne d, !flagZ s.p), (.beq d, flagZ s.p)] →
    let target := (((s.pc.toNat : Int) + d.toInt) % 65536).toNat
    exec i s = .next
      (if taken = true then
        { s with pc := BitVec.ofNat 16 target, opCycles := if target / 256 ≠ s.pc.toNat / 256 then 4 else 3 }
       else { s with opCycles := 2 })

/-- R260 to R267: each flag instruction writes its one flag, NOP nothing, and nothing else changes, in 2 cycles. -/
def Obligations.FlagResult : Prop :=
  ∀ s : State,
    (∀ (i : Instr) (k : Nat) (b : Bool),
      (i, k, b) ∈ [(.clc, 0, false), (.sec, 0, true), (.cli, 2, false), (.sei, 2, true), (.cld, 3, false), (.sed, 3, true),
        (.clv, 6, false)] →
      ∃ q : Byte, exec i s = .next { s with p := q, opCycles := 2 } ∧ q.getLsbD k = b ∧ SameFlagsBut [k] s.p q) ∧
    exec .nop s = .next { s with opCycles := 2 }

/-- The unofficial and unlisted no-operations. R281, R282: DOP and TOP make one bus read at their effective address and
discard it; no register and no flag changes; that they make the read is the spec's decision D6, and an immediate DOP reads
its operand byte a second time (log entry 9). R295: NOP1 has no effect, in 2 cycles; its length is the spec's decision D5.
R296: a UNL opcode charges its base cycles and, in the model's choice of the spec's "least-wrong reading" (log entry 4), is
a NOP of a length from 1 to 3 that depends on the opcode alone and is otherwise unknown. Constructors: dop04, dop14, dop34,
dop44, dop54, dop64, dop74, dop80, dop82, dop89, dopC2, dopD4, dopE2, dopF4, top0C, top1C, top3C, top5C, top7C, topDC,
topFC, nop1x1A, nop1x3A, nop1x5A, nop1x7A, nop1xDA, nop1xFA, unl02, unl0B, unl12, unl22, unl2B, unl32, unl42, unl4B, unl52,
unl62, unl6B, unl72, unl8B, unl92, unl93, unl9B, unl9C, unl9E, unl9F, unlAB, unlB2, unlBB, unlCB, unlD2, unlF2. -/
def Obligations.UnofficialNopResult : Prop :=
  ∀ (i : Instr) (s : State),
    (i.mnemonic = .dop ∨ i.mnemonic = .top → ∀ a : Addr, (effectiveAddr i s).ea = some a → ∃ t, exec i s = .next t ∧
      SameRegisters s t ∧ SameOutside (busRead a s).2 t ∧ SameBytes s t ∧ SamePpuBytes s t ∧
      t.opCycles = baseCycles i.opcode + (effectiveAddr i s).crossed.toNat) ∧
    (i.mnemonic = .nop1 → exec i s = .next { s with opCycles := 2 }) ∧
    (i.mnemonic = .unl → ∃ n : Nat, n = (Config.unlistedOperands i.opcode).val ∧ n < 3 ∧
      exec i s = .next { s with pc := s.pc + BitVec.ofNat 16 n, opCycles := baseCycles i.opcode })
end

