-- ==== Sys2Proof/Laws/Bits.lean ====
section
/-! SUPPORT. Laws/Bits.lean: byte order, single bits, and the flag accessors and updates. -/

namespace Sys2Proof.Machine

theorem word16_toNat (hi lo : Byte) : (word16 hi lo).toNat = 256 * hi.toNat + lo.toNat := by
  have h := BitVec.toNat_append hi lo
  rw [word16, h, ← Nat.shiftLeft_add_eq_or_of_lt lo.isLt, Nat.shiftLeft_eq]
  omega

theorem hiByte_toNat (a : Addr) : (hiByte a).toNat = a.toNat / 256 := by
  have := a.isLt
  simp only [hiByte, BitVec.extractLsb'_toNat, Nat.shiftRight_eq_div_pow]
  omega

theorem loByte_toNat (a : Addr) : (loByte a).toNat = a.toNat % 256 := by
  simp [loByte, BitVec.extractLsb'_toNat]

@[simp] theorem word16_hi_lo (a : Addr) : word16 (hiByte a) (loByte a) = a := by
  apply BitVec.eq_of_toNat_eq
  rw [word16_toNat, hiByte_toNat, loByte_toNat]
  omega

@[simp] theorem hiByte_word16 (hi lo : Byte) : hiByte (word16 hi lo) = hi := by
  apply BitVec.eq_of_toNat_eq
  rw [hiByte_toNat, word16_toNat]
  have := lo.isLt
  omega

@[simp] theorem loByte_word16 (hi lo : Byte) : loByte (word16 hi lo) = lo := by
  apply BitVec.eq_of_toNat_eq
  rw [loByte_toNat, word16_toNat]
  have := lo.isLt
  omega

theorem zeroPage_toNat (b : Byte) : (zeroPage b).toNat = b.toNat := by
  simp [zeroPage, word16_toNat]

theorem stackAddr_toNat (sp : Byte) : (stackAddr sp).toNat = 256 + sp.toNat := by
  simp [stackAddr, word16_toNat]

/-- The bits of a byte with one bit replaced. -/
theorem putBit_getLsbD (b : Byte) {i : Nat} (hi : i < 8) (v : Bool) (k : Nat) :
    (putBit b i v).getLsbD k = if k = i then v else b.getLsbD k := by
  have hk : k < 8 ∨ 8 ≤ k := by omega
  rcases hk with hk | hk
  · have h : ∀ i k : Fin 8, (1#8 <<< i.val).getLsbD k.val = decide (k = i) := by decide
    have h1 := h ⟨i, hi⟩ ⟨k, hk⟩
    simp only [Fin.mk.injEq] at h1
    cases v
    · rw [putBit, if_neg (by decide), BitVec.getLsbD_and, BitVec.getLsbD_not, h1, decide_eq_true hk]
      by_cases hki : k = i <;> simp [hki]
    · rw [putBit, if_pos rfl, BitVec.getLsbD_or, h1]
      by_cases hki : k = i <;> simp [hki]
  · rw [BitVec.getLsbD_of_ge _ _ hk, BitVec.getLsbD_of_ge _ _ hk, if_neg (by omega)]

/-- A byte is 0 exactly when all its bits are. -/
theorem byte_eq_of_bits {a b : Byte} (h : ∀ k, k < 8 → a.getLsbD k = b.getLsbD k) : a = b :=
  BitVec.eq_of_getLsbD_eq (fun k hk => h k hk)

theorem setNZ_getLsbD (v p : Byte) (k : Nat) :
    (setNZ v p).getLsbD k = if k = 1 then v == 0 else if k = 7 then v.getLsbD 7 else p.getLsbD k := by
  simp only [setNZ, putZ, putN, putBit_getLsbD _ (by omega : (1 : Nat) < 8), putBit_getLsbD _ (by omega : (7 : Nat) < 8)]

theorem putC_getLsbD (p : Byte) (b : Bool) (k : Nat) : (putC p b).getLsbD k = if k = 0 then b else p.getLsbD k :=
  putBit_getLsbD p (by omega) b k

theorem putV_getLsbD (p : Byte) (b : Bool) (k : Nat) : (putV p b).getLsbD k = if k = 6 then b else p.getLsbD k :=
  putBit_getLsbD p (by omega) b k

theorem adcFlags_getLsbD (a m p : Byte) (k : Nat) :
    (adcFlags a m p).getLsbD k =
      if k = 6 then ((a ^^^ adcResult a m p) &&& ~~~(a ^^^ m) &&& 0x80#8) != 0
      else if k = 0 then decide (adcSum a m p > 0xFF)
      else (setNZ (adcResult a m p) p).getLsbD k := by
  simp only [adcFlags, putV_getLsbD, putC_getLsbD]

theorem sbcFlags_getLsbD (a m p : Byte) (k : Nat) :
    (sbcFlags a m p).getLsbD k =
      if k = 6 then ((a ^^^ m) &&& (a ^^^ sbcResult a m p) &&& 0x80#8) != 0
      else if k = 0 then decide (0 ≤ sbcDiff a m p)
      else (setNZ (sbcResult a m p) p).getLsbD k := by
  simp only [sbcFlags, putV_getLsbD, putC_getLsbD]

theorem compareFlags_getLsbD (r m p : Byte) (k : Nat) :
    (compareFlags r m p).getLsbD k = if k = 0 then decide (m.toNat ≤ r.toNat) else (setNZ (r - m) p).getLsbD k := by
  simp only [compareFlags, putC_getLsbD]

theorem bitFlags_getLsbD (a m p : Byte) (k : Nat) :
    (bitFlags a m p).getLsbD k =
      if k = 6 then m.getLsbD 6 else if k = 7 then m.getLsbD 7 else if k = 1 then (a &&& m) == 0 else p.getLsbD k := by
  simp only [bitFlags, putZ, putN, putV_getLsbD, putBit_getLsbD _ (by omega : (1 : Nat) < 8),
    putBit_getLsbD _ (by omega : (7 : Nat) < 8)]

end Sys2Proof.Machine
end

