-- ==== Sys2Proof/Laws/Memory.lean ====
section
/-! SUPPORT. Laws/Memory.lean: reading after writing, and the canonical form. -/

namespace Sys2Proof.Machine

theorem Memory.read_erase_same (m : Memory) (a : Nat) : (m.erase a).read a = unlisted := by
  induction m with
  | nil => rfl
  | cons c m ih =>
    by_cases h : c.1 = a <;> simp_all [Memory.erase, Memory.read]

theorem Memory.read_erase_other (m : Memory) {a b : Nat} (h : b ≠ a) : (m.erase a).read b = m.read b := by
  induction m with
  | nil => rfl
  | cons c m ih =>
    by_cases hc : c.1 = a
    · subst hc; simp_all [Memory.erase, Memory.read, Ne.symm h]
    · by_cases hb : c.1 = b <;> simp_all [Memory.erase, Memory.read]

theorem Memory.read_insert_other (m : Memory) {a b : Nat} (v : Byte) (h : b ≠ a) :
    (Memory.insert a v m).read b = m.read b := by
  induction m with
  | nil => simp [Memory.insert, Memory.read, Ne.symm h]
  | cons c m ih =>
    by_cases hc : a < c.1
    · simp [Memory.insert, hc, Memory.read, Ne.symm h]
    · simp only [Memory.insert, hc, if_false, Memory.read, ih]

theorem Memory.read_insert_same (m : Memory) (a : Nat) (v : Byte) :
    (Memory.insert a v (m.erase a)).read a = v := by
  induction m with
  | nil => simp [Memory.erase, Memory.insert, Memory.read]
  | cons c m ih =>
    by_cases hc : c.1 = a
    · simpa [Memory.erase, hc] using ih
    · by_cases hl : a < c.1
      · simp [Memory.erase, hc, Memory.insert, hl, Memory.read]
      · simpa [Memory.erase, hc, Memory.insert, hl, Memory.read] using ih

/-- A read after a write to the same key gives the byte written. -/
theorem Memory.read_write_same (m : Memory) (a : Nat) (v : Byte) : (m.write a v).read a = v := by
  by_cases h : v = unlisted
  · rw [Memory.write, if_pos h, Memory.read_erase_same, h]
  · rw [Memory.write, if_neg h, Memory.read_insert_same]

/-- A write leaves every other key alone. -/
theorem Memory.read_write_other (m : Memory) {a b : Nat} (v : Byte) (h : b ≠ a) : (m.write a v).read b = m.read b := by
  by_cases hv : v = unlisted
  · rw [Memory.write, if_pos hv, Memory.read_erase_other m h]
  · rw [Memory.write, if_neg hv, Memory.read_insert_other _ v h, Memory.read_erase_other m h]

/-- Reading after a write, both cases. -/
theorem Memory.read_write (m : Memory) (a b : Nat) (v : Byte) :
    (m.write a v).read b = if b = a then v else m.read b := by
  by_cases h : b = a
  · rw [if_pos h, h, Memory.read_write_same]
  · rw [if_neg h, Memory.read_write_other m v h]

/-- The canonical form, said of all cells at once. -/
theorem Memory.wf_iff (m : Memory) :
    m.wf = true ↔ (∀ c ∈ m, c.2 ≠ unlisted) ∧ List.Pairwise (fun c d : Host.Cell => c.1 < d.1) m := by
  induction m with
  | nil => simp [Memory.wf]
  | cons c m ih =>
    cases m with
    | nil => simp [Memory.wf]
    | cons d m =>
      simp only [Memory.wf, Bool.and_eq_true, ih, List.pairwise_cons, List.mem_cons, bne_iff_ne, decide_eq_true_eq]
      constructor
      · rintro ⟨⟨hc, hcd⟩, hne, hd, hm⟩
        refine ⟨?_, ?_, hd, hm⟩
        · rintro x (rfl | hx)
          · exact hc
          · exact hne x hx
        · rintro x (rfl | hx)
          · exact hcd
          · exact Nat.lt_trans hcd (hd x hx)
      · rintro ⟨hne, hc, hd, hm⟩
        exact ⟨⟨hne c (.inl rfl), hc d (.inl rfl)⟩, fun x hx => hne x (.inr hx), hd, hm⟩

theorem Memory.mem_insert {a : Nat} {v : Byte} {m : Memory} {c : Host.Cell} :
    c ∈ Memory.insert a v m → c = (a, v) ∨ c ∈ m := by
  induction m with
  | nil => simp [Memory.insert]
  | cons d m ih =>
    by_cases h : a < d.1
    · simp [Memory.insert, h]
    · simp only [Memory.insert, h, if_false, List.mem_cons]
      rintro (h1 | h1)
      · exact .inr (.inl h1)
      · rcases ih h1 with h2 | h2
        · exact .inl h2
        · exact .inr (.inr h2)

theorem Memory.wf_erase {m : Memory} (a : Nat) (h : m.wf = true) : (m.erase a).wf = true := by
  rw [Memory.wf_iff] at h ⊢
  exact ⟨fun c hc => h.1 c (List.mem_filter.1 hc).1, List.Pairwise.filter _ h.2⟩

theorem Memory.wf_insert {m : Memory} {a : Nat} {v : Byte} (hv : v ≠ unlisted) (ha : ∀ c ∈ m, c.1 ≠ a) (h : m.wf = true) :
    (Memory.insert a v m).wf = true := by
  rw [Memory.wf_iff] at h ⊢
  refine ⟨fun c hc => ?_, ?_⟩
  · rcases Memory.mem_insert hc with rfl | hc
    · exact hv
    · exact h.1 c hc
  · obtain ⟨-, hp⟩ := h
    induction m with
    | nil => simp [Memory.insert]
    | cons d m ih =>
      rw [List.pairwise_cons] at hp
      have hd := ha d (by simp)
      by_cases hl : a < d.1
      · simp only [Memory.insert, hl, if_true, List.pairwise_cons, List.mem_cons]
        refine ⟨?_, hp⟩
        rintro x (rfl | hx)
        · exact hl
        · exact Nat.lt_trans hl (hp.1 x hx)
      · simp only [Memory.insert, hl, if_false, List.pairwise_cons]
        refine ⟨fun x hx => ?_, ih (fun c hc => ha c (by simp [hc])) hp.2⟩
        rcases Memory.mem_insert hx with rfl | hx
        · simp only; omega
        · exact hp.1 x hx

/-- Writing keeps the canonical form. -/
theorem Memory.wf_write {m : Memory} (a : Nat) (v : Byte) (h : m.wf = true) : (m.write a v).wf = true := by
  by_cases hv : v = unlisted
  · rw [Memory.write, if_pos hv]; exact Memory.wf_erase a h
  · rw [Memory.write, if_neg hv]
    refine Memory.wf_insert hv (fun c hc => ?_) (Memory.wf_erase a h)
    simpa using (List.mem_filter.1 hc).2

theorem Memory.below_iff {n : Nat} {m : Memory} : m.below n = true ↔ ∀ c ∈ m, c.1 < n := by
  simp [Memory.below]

/-- Writing below a bound keeps every key below it. -/
theorem Memory.below_write {n : Nat} {m : Memory} {a : Nat} (v : Byte) (ha : a < n) (h : m.below n = true) :
    (m.write a v).below n = true := by
  rw [Memory.below_iff] at h ⊢
  intro c hc
  have he : ∀ c ∈ m.erase a, c.1 < n := fun c hc => h c (List.mem_filter.1 hc).1
  by_cases hv : v = unlisted
  · rw [Memory.write, if_pos hv] at hc; exact he c hc
  · rw [Memory.write, if_neg hv] at hc
    rcases Memory.mem_insert hc with rfl | hc
    · exact ha
    · exact he c hc

/-- A key that a memory lists after a write is the one written or was listed before. -/
theorem Memory.mem_write {m : Memory} {a : Nat} {v : Byte} {c : Host.Cell} (h : c ∈ m.write a v) : c = (a, v) ∨ c ∈ m := by
  by_cases hv : v = unlisted
  · rw [Memory.write, if_pos hv] at h; exact .inr (List.mem_filter.1 h).1
  · rw [Memory.write, if_neg hv] at h
    rcases Memory.mem_insert h with h | h
    · exact .inl h
    · exact .inr (List.mem_filter.1 h).1

/-- Two memories in canonical form that read alike everywhere are the same data. -/
theorem Memory.ext_read {m n : Memory} (hm : m.wf = true) (hn : n.wf = true) (h : ∀ a, m.read a = n.read a) : m = n := by
  have key : ∀ {m : Memory}, m.wf = true → ∀ c : Host.Cell, c ∈ m ↔ m.read c.1 = c.2 ∧ c.2 ≠ unlisted := by
    intro m hm c
    rw [Memory.wf_iff] at hm
    obtain ⟨hne, hp⟩ := hm
    induction m with
    | nil => simp only [Memory.read, List.not_mem_nil, false_iff]; exact fun h => h.2 h.1.symm
    | cons d m ih =>
      rw [List.pairwise_cons] at hp
      have ih' := ih (fun c hc => hne c (by simp [hc])) hp.2
      by_cases hd : d.1 = c.1
      · simp only [List.mem_cons, Memory.read, hd, if_true]
        constructor
        · rintro (rfl | hc)
          · exact ⟨rfl, hne _ (by simp)⟩
          · exact absurd (hp.1 c hc) (by omega)
        · rintro ⟨h1, -⟩
          exact .inl (Prod.ext hd.symm h1.symm)
      · simp only [List.mem_cons, Memory.read, hd, if_false, ← ih']
        constructor
        · rintro (rfl | hc)
          · exact absurd rfl hd
          · exact hc
        · exact .inr
  have hperm : ∀ c, c ∈ m ↔ c ∈ n := fun c => by rw [key hm, key hn, h]
  have sorted : ∀ {m : Memory}, m.wf = true → List.Pairwise (fun c d : Host.Cell => c.1 < d.1) m :=
    fun hm => ((Memory.wf_iff _).1 hm).2
  have nd : ∀ {m : Memory}, m.wf = true → m.Nodup := fun hm =>
    (sorted hm).imp (fun {a b} hab => by rintro rfl; exact absurd hab (by omega))
  have p : m.Perm n := (List.perm_ext_iff_of_nodup (nd hm) (nd hn)).2 hperm
  exact p.eq_of_pairwise (fun a b _ _ h1 h2 => absurd h1 (by omega)) (sorted hm) (sorted hn)

end Sys2Proof.Machine
end

