-- ==== Sys2Proof/Laws/State.lean ====
section
/-! SUPPORT. Laws/State.lean: what each named update of `State` leaves in each field. -/

namespace Sys2Proof.Machine

@[simp] theorem State.setA_a (s : State) (v : Byte) : (s.setA v).a = v := rfl
@[simp] theorem State.setA_x (s : State) (v : Byte) : (s.setA v).x = s.x := rfl
@[simp] theorem State.setA_y (s : State) (v : Byte) : (s.setA v).y = s.y := rfl
@[simp] theorem State.setA_sp (s : State) (v : Byte) : (s.setA v).sp = s.sp := rfl
@[simp] theorem State.setA_p (s : State) (v : Byte) : (s.setA v).p = s.p := rfl
@[simp] theorem State.setA_pc (s : State) (v : Byte) : (s.setA v).pc = s.pc := rfl
@[simp] theorem State.setA_opCycles (s : State) (v : Byte) : (s.setA v).opCycles = s.opCycles := rfl
@[simp] theorem State.setA_pending (s : State) (v : Byte) : (s.setA v).pending = s.pending := rfl
@[simp] theorem State.setA_ram (s : State) (v : Byte) : (s.setA v).ram = s.ram := rfl
@[simp] theorem State.setA_ppu (s : State) (v : Byte) : (s.setA v).ppu = s.ppu := rfl
@[simp] theorem State.setA_cart (s : State) (v : Byte) : (s.setA v).cart = s.cart := rfl
@[simp] theorem State.setA_freeReads (s : State) (v : Byte) : (s.setA v).freeReads = s.freeReads := rfl

@[simp] theorem State.setX_a (s : State) (v : Byte) : (s.setX v).a = s.a := rfl
@[simp] theorem State.setX_x (s : State) (v : Byte) : (s.setX v).x = v := rfl
@[simp] theorem State.setX_y (s : State) (v : Byte) : (s.setX v).y = s.y := rfl
@[simp] theorem State.setX_sp (s : State) (v : Byte) : (s.setX v).sp = s.sp := rfl
@[simp] theorem State.setX_p (s : State) (v : Byte) : (s.setX v).p = s.p := rfl
@[simp] theorem State.setX_pc (s : State) (v : Byte) : (s.setX v).pc = s.pc := rfl
@[simp] theorem State.setX_opCycles (s : State) (v : Byte) : (s.setX v).opCycles = s.opCycles := rfl
@[simp] theorem State.setX_pending (s : State) (v : Byte) : (s.setX v).pending = s.pending := rfl
@[simp] theorem State.setX_ram (s : State) (v : Byte) : (s.setX v).ram = s.ram := rfl
@[simp] theorem State.setX_ppu (s : State) (v : Byte) : (s.setX v).ppu = s.ppu := rfl
@[simp] theorem State.setX_cart (s : State) (v : Byte) : (s.setX v).cart = s.cart := rfl
@[simp] theorem State.setX_freeReads (s : State) (v : Byte) : (s.setX v).freeReads = s.freeReads := rfl

@[simp] theorem State.setY_a (s : State) (v : Byte) : (s.setY v).a = s.a := rfl
@[simp] theorem State.setY_x (s : State) (v : Byte) : (s.setY v).x = s.x := rfl
@[simp] theorem State.setY_y (s : State) (v : Byte) : (s.setY v).y = v := rfl
@[simp] theorem State.setY_sp (s : State) (v : Byte) : (s.setY v).sp = s.sp := rfl
@[simp] theorem State.setY_p (s : State) (v : Byte) : (s.setY v).p = s.p := rfl
@[simp] theorem State.setY_pc (s : State) (v : Byte) : (s.setY v).pc = s.pc := rfl
@[simp] theorem State.setY_opCycles (s : State) (v : Byte) : (s.setY v).opCycles = s.opCycles := rfl
@[simp] theorem State.setY_pending (s : State) (v : Byte) : (s.setY v).pending = s.pending := rfl
@[simp] theorem State.setY_ram (s : State) (v : Byte) : (s.setY v).ram = s.ram := rfl
@[simp] theorem State.setY_ppu (s : State) (v : Byte) : (s.setY v).ppu = s.ppu := rfl
@[simp] theorem State.setY_cart (s : State) (v : Byte) : (s.setY v).cart = s.cart := rfl
@[simp] theorem State.setY_freeReads (s : State) (v : Byte) : (s.setY v).freeReads = s.freeReads := rfl

@[simp] theorem State.setSp_a (s : State) (v : Byte) : (s.setSp v).a = s.a := rfl
@[simp] theorem State.setSp_x (s : State) (v : Byte) : (s.setSp v).x = s.x := rfl
@[simp] theorem State.setSp_y (s : State) (v : Byte) : (s.setSp v).y = s.y := rfl
@[simp] theorem State.setSp_sp (s : State) (v : Byte) : (s.setSp v).sp = v := rfl
@[simp] theorem State.setSp_p (s : State) (v : Byte) : (s.setSp v).p = s.p := rfl
@[simp] theorem State.setSp_pc (s : State) (v : Byte) : (s.setSp v).pc = s.pc := rfl
@[simp] theorem State.setSp_opCycles (s : State) (v : Byte) : (s.setSp v).opCycles = s.opCycles := rfl
@[simp] theorem State.setSp_pending (s : State) (v : Byte) : (s.setSp v).pending = s.pending := rfl
@[simp] theorem State.setSp_ram (s : State) (v : Byte) : (s.setSp v).ram = s.ram := rfl
@[simp] theorem State.setSp_ppu (s : State) (v : Byte) : (s.setSp v).ppu = s.ppu := rfl
@[simp] theorem State.setSp_cart (s : State) (v : Byte) : (s.setSp v).cart = s.cart := rfl
@[simp] theorem State.setSp_freeReads (s : State) (v : Byte) : (s.setSp v).freeReads = s.freeReads := rfl

@[simp] theorem State.setP_a (s : State) (v : Byte) : (s.setP v).a = s.a := rfl
@[simp] theorem State.setP_x (s : State) (v : Byte) : (s.setP v).x = s.x := rfl
@[simp] theorem State.setP_y (s : State) (v : Byte) : (s.setP v).y = s.y := rfl
@[simp] theorem State.setP_sp (s : State) (v : Byte) : (s.setP v).sp = s.sp := rfl
@[simp] theorem State.setP_p (s : State) (v : Byte) : (s.setP v).p = v := rfl
@[simp] theorem State.setP_pc (s : State) (v : Byte) : (s.setP v).pc = s.pc := rfl
@[simp] theorem State.setP_opCycles (s : State) (v : Byte) : (s.setP v).opCycles = s.opCycles := rfl
@[simp] theorem State.setP_pending (s : State) (v : Byte) : (s.setP v).pending = s.pending := rfl
@[simp] theorem State.setP_ram (s : State) (v : Byte) : (s.setP v).ram = s.ram := rfl
@[simp] theorem State.setP_ppu (s : State) (v : Byte) : (s.setP v).ppu = s.ppu := rfl
@[simp] theorem State.setP_cart (s : State) (v : Byte) : (s.setP v).cart = s.cart := rfl
@[simp] theorem State.setP_freeReads (s : State) (v : Byte) : (s.setP v).freeReads = s.freeReads := rfl

@[simp] theorem State.setPc_a (s : State) (v : Addr) : (s.setPc v).a = s.a := rfl
@[simp] theorem State.setPc_x (s : State) (v : Addr) : (s.setPc v).x = s.x := rfl
@[simp] theorem State.setPc_y (s : State) (v : Addr) : (s.setPc v).y = s.y := rfl
@[simp] theorem State.setPc_sp (s : State) (v : Addr) : (s.setPc v).sp = s.sp := rfl
@[simp] theorem State.setPc_p (s : State) (v : Addr) : (s.setPc v).p = s.p := rfl
@[simp] theorem State.setPc_pc (s : State) (v : Addr) : (s.setPc v).pc = v := rfl
@[simp] theorem State.setPc_opCycles (s : State) (v : Addr) : (s.setPc v).opCycles = s.opCycles := rfl
@[simp] theorem State.setPc_pending (s : State) (v : Addr) : (s.setPc v).pending = s.pending := rfl
@[simp] theorem State.setPc_ram (s : State) (v : Addr) : (s.setPc v).ram = s.ram := rfl
@[simp] theorem State.setPc_ppu (s : State) (v : Addr) : (s.setPc v).ppu = s.ppu := rfl
@[simp] theorem State.setPc_cart (s : State) (v : Addr) : (s.setPc v).cart = s.cart := rfl
@[simp] theorem State.setPc_freeReads (s : State) (v : Addr) : (s.setPc v).freeReads = s.freeReads := rfl

@[simp] theorem State.setCycles_a (s : State) (n : Nat) : (s.setCycles n).a = s.a := rfl
@[simp] theorem State.setCycles_x (s : State) (n : Nat) : (s.setCycles n).x = s.x := rfl
@[simp] theorem State.setCycles_y (s : State) (n : Nat) : (s.setCycles n).y = s.y := rfl
@[simp] theorem State.setCycles_sp (s : State) (n : Nat) : (s.setCycles n).sp = s.sp := rfl
@[simp] theorem State.setCycles_p (s : State) (n : Nat) : (s.setCycles n).p = s.p := rfl
@[simp] theorem State.setCycles_pc (s : State) (n : Nat) : (s.setCycles n).pc = s.pc := rfl
@[simp] theorem State.setCycles_opCycles (s : State) (n : Nat) : (s.setCycles n).opCycles = n := rfl
@[simp] theorem State.setCycles_pending (s : State) (n : Nat) : (s.setCycles n).pending = s.pending := rfl
@[simp] theorem State.setCycles_ram (s : State) (n : Nat) : (s.setCycles n).ram = s.ram := rfl
@[simp] theorem State.setCycles_ppu (s : State) (n : Nat) : (s.setCycles n).ppu = s.ppu := rfl
@[simp] theorem State.setCycles_cart (s : State) (n : Nat) : (s.setCycles n).cart = s.cart := rfl
@[simp] theorem State.setCycles_freeReads (s : State) (n : Nat) : (s.setCycles n).freeReads = s.freeReads := rfl

@[simp] theorem State.addCycles_a (s : State) (n : Nat) : (s.addCycles n).a = s.a := rfl
@[simp] theorem State.addCycles_x (s : State) (n : Nat) : (s.addCycles n).x = s.x := rfl
@[simp] theorem State.addCycles_y (s : State) (n : Nat) : (s.addCycles n).y = s.y := rfl
@[simp] theorem State.addCycles_sp (s : State) (n : Nat) : (s.addCycles n).sp = s.sp := rfl
@[simp] theorem State.addCycles_p (s : State) (n : Nat) : (s.addCycles n).p = s.p := rfl
@[simp] theorem State.addCycles_pc (s : State) (n : Nat) : (s.addCycles n).pc = s.pc := rfl
@[simp] theorem State.addCycles_opCycles (s : State) (n : Nat) : (s.addCycles n).opCycles = s.opCycles + n := rfl
@[simp] theorem State.addCycles_pending (s : State) (n : Nat) : (s.addCycles n).pending = s.pending := rfl
@[simp] theorem State.addCycles_ram (s : State) (n : Nat) : (s.addCycles n).ram = s.ram := rfl
@[simp] theorem State.addCycles_ppu (s : State) (n : Nat) : (s.addCycles n).ppu = s.ppu := rfl
@[simp] theorem State.addCycles_cart (s : State) (n : Nat) : (s.addCycles n).cart = s.cart := rfl
@[simp] theorem State.addCycles_freeReads (s : State) (n : Nat) : (s.addCycles n).freeReads = s.freeReads := rfl

@[simp] theorem State.credit_a (s : State) (op : Byte) : (s.credit op).a = s.a := rfl
@[simp] theorem State.credit_x (s : State) (op : Byte) : (s.credit op).x = s.x := rfl
@[simp] theorem State.credit_y (s : State) (op : Byte) : (s.credit op).y = s.y := rfl
@[simp] theorem State.credit_sp (s : State) (op : Byte) : (s.credit op).sp = s.sp := rfl
@[simp] theorem State.credit_p (s : State) (op : Byte) : (s.credit op).p = s.p := rfl
@[simp] theorem State.credit_pc (s : State) (op : Byte) : (s.credit op).pc = s.pc := rfl
@[simp] theorem State.credit_opCycles (s : State) (op : Byte) : (s.credit op).opCycles = baseCycles op := rfl
@[simp] theorem State.credit_pending (s : State) (op : Byte) : (s.credit op).pending = s.pending := rfl
@[simp] theorem State.credit_ram (s : State) (op : Byte) : (s.credit op).ram = s.ram := rfl
@[simp] theorem State.credit_ppu (s : State) (op : Byte) : (s.credit op).ppu = s.ppu := rfl
@[simp] theorem State.credit_cart (s : State) (op : Byte) : (s.credit op).cart = s.cart := rfl
@[simp] theorem State.credit_freeReads (s : State) (op : Byte) : (s.credit op).freeReads = s.freeReads := rfl

@[simp] theorem State.setPending_a (s : State) (q : Pending) : (s.setPending q).a = s.a := rfl
@[simp] theorem State.setPending_x (s : State) (q : Pending) : (s.setPending q).x = s.x := rfl
@[simp] theorem State.setPending_y (s : State) (q : Pending) : (s.setPending q).y = s.y := rfl
@[simp] theorem State.setPending_sp (s : State) (q : Pending) : (s.setPending q).sp = s.sp := rfl
@[simp] theorem State.setPending_p (s : State) (q : Pending) : (s.setPending q).p = s.p := rfl
@[simp] theorem State.setPending_pc (s : State) (q : Pending) : (s.setPending q).pc = s.pc := rfl
@[simp] theorem State.setPending_opCycles (s : State) (q : Pending) : (s.setPending q).opCycles = s.opCycles := rfl
@[simp] theorem State.setPending_pending (s : State) (q : Pending) : (s.setPending q).pending = q := rfl
@[simp] theorem State.setPending_ram (s : State) (q : Pending) : (s.setPending q).ram = s.ram := rfl
@[simp] theorem State.setPending_ppu (s : State) (q : Pending) : (s.setPending q).ppu = s.ppu := rfl
@[simp] theorem State.setPending_cart (s : State) (q : Pending) : (s.setPending q).cart = s.cart := rfl
@[simp] theorem State.setPending_freeReads (s : State) (q : Pending) : (s.setPending q).freeReads = s.freeReads := rfl

@[simp] theorem State.setRam_a (s : State) (m : Memory) : (s.setRam m).a = s.a := rfl
@[simp] theorem State.setRam_x (s : State) (m : Memory) : (s.setRam m).x = s.x := rfl
@[simp] theorem State.setRam_y (s : State) (m : Memory) : (s.setRam m).y = s.y := rfl
@[simp] theorem State.setRam_sp (s : State) (m : Memory) : (s.setRam m).sp = s.sp := rfl
@[simp] theorem State.setRam_p (s : State) (m : Memory) : (s.setRam m).p = s.p := rfl
@[simp] theorem State.setRam_pc (s : State) (m : Memory) : (s.setRam m).pc = s.pc := rfl
@[simp] theorem State.setRam_opCycles (s : State) (m : Memory) : (s.setRam m).opCycles = s.opCycles := rfl
@[simp] theorem State.setRam_pending (s : State) (m : Memory) : (s.setRam m).pending = s.pending := rfl
@[simp] theorem State.setRam_ram (s : State) (m : Memory) : (s.setRam m).ram = m := rfl
@[simp] theorem State.setRam_ppu (s : State) (m : Memory) : (s.setRam m).ppu = s.ppu := rfl
@[simp] theorem State.setRam_cart (s : State) (m : Memory) : (s.setRam m).cart = s.cart := rfl
@[simp] theorem State.setRam_freeReads (s : State) (m : Memory) : (s.setRam m).freeReads = s.freeReads := rfl

@[simp] theorem State.setPpu_a (s : State) (u : Ppu) : (s.setPpu u).a = s.a := rfl
@[simp] theorem State.setPpu_x (s : State) (u : Ppu) : (s.setPpu u).x = s.x := rfl
@[simp] theorem State.setPpu_y (s : State) (u : Ppu) : (s.setPpu u).y = s.y := rfl
@[simp] theorem State.setPpu_sp (s : State) (u : Ppu) : (s.setPpu u).sp = s.sp := rfl
@[simp] theorem State.setPpu_p (s : State) (u : Ppu) : (s.setPpu u).p = s.p := rfl
@[simp] theorem State.setPpu_pc (s : State) (u : Ppu) : (s.setPpu u).pc = s.pc := rfl
@[simp] theorem State.setPpu_opCycles (s : State) (u : Ppu) : (s.setPpu u).opCycles = s.opCycles := rfl
@[simp] theorem State.setPpu_pending (s : State) (u : Ppu) : (s.setPpu u).pending = s.pending := rfl
@[simp] theorem State.setPpu_ram (s : State) (u : Ppu) : (s.setPpu u).ram = s.ram := rfl
@[simp] theorem State.setPpu_ppu (s : State) (u : Ppu) : (s.setPpu u).ppu = u := rfl
@[simp] theorem State.setPpu_cart (s : State) (u : Ppu) : (s.setPpu u).cart = s.cart := rfl
@[simp] theorem State.setPpu_freeReads (s : State) (u : Ppu) : (s.setPpu u).freeReads = s.freeReads := rfl

@[simp] theorem State.setCart_a (s : State) (c : Cartridge) : (s.setCart c).a = s.a := rfl
@[simp] theorem State.setCart_x (s : State) (c : Cartridge) : (s.setCart c).x = s.x := rfl
@[simp] theorem State.setCart_y (s : State) (c : Cartridge) : (s.setCart c).y = s.y := rfl
@[simp] theorem State.setCart_sp (s : State) (c : Cartridge) : (s.setCart c).sp = s.sp := rfl
@[simp] theorem State.setCart_p (s : State) (c : Cartridge) : (s.setCart c).p = s.p := rfl
@[simp] theorem State.setCart_pc (s : State) (c : Cartridge) : (s.setCart c).pc = s.pc := rfl
@[simp] theorem State.setCart_opCycles (s : State) (c : Cartridge) : (s.setCart c).opCycles = s.opCycles := rfl
@[simp] theorem State.setCart_pending (s : State) (c : Cartridge) : (s.setCart c).pending = s.pending := rfl
@[simp] theorem State.setCart_ram (s : State) (c : Cartridge) : (s.setCart c).ram = s.ram := rfl
@[simp] theorem State.setCart_ppu (s : State) (c : Cartridge) : (s.setCart c).ppu = s.ppu := rfl
@[simp] theorem State.setCart_cart (s : State) (c : Cartridge) : (s.setCart c).cart = c := rfl
@[simp] theorem State.setCart_freeReads (s : State) (c : Cartridge) : (s.setCart c).freeReads = s.freeReads := rfl

@[simp] theorem State.tickFree_a (s : State) : (s.tickFree).a = s.a := rfl
@[simp] theorem State.tickFree_x (s : State) : (s.tickFree).x = s.x := rfl
@[simp] theorem State.tickFree_y (s : State) : (s.tickFree).y = s.y := rfl
@[simp] theorem State.tickFree_sp (s : State) : (s.tickFree).sp = s.sp := rfl
@[simp] theorem State.tickFree_p (s : State) : (s.tickFree).p = s.p := rfl
@[simp] theorem State.tickFree_pc (s : State) : (s.tickFree).pc = s.pc := rfl
@[simp] theorem State.tickFree_opCycles (s : State) : (s.tickFree).opCycles = s.opCycles := rfl
@[simp] theorem State.tickFree_pending (s : State) : (s.tickFree).pending = s.pending := rfl
@[simp] theorem State.tickFree_ram (s : State) : (s.tickFree).ram = s.ram := rfl
@[simp] theorem State.tickFree_ppu (s : State) : (s.tickFree).ppu = s.ppu := rfl
@[simp] theorem State.tickFree_cart (s : State) : (s.tickFree).cart = s.cart := rfl
@[simp] theorem State.tickFree_freeReads (s : State) : (s.tickFree).freeReads = s.freeReads + 1 := rfl

end Sys2Proof.Machine
end

