-- ==== Sys2Proof/Laws/Bus.lean ====
section
/-! SUPPORT. Laws/Bus.lean: everything that a bus read, a bus write, a push and a pop can do. -/

namespace Sys2Proof.Machine

/-! Reads -/

/-- The register reads by index (R311). -/
theorem readRegister_2 (s : State) : readRegister 2 s = readStatus s := rfl
theorem readRegister_4 (s : State) : readRegister 4 s = readOamData s := rfl
theorem readRegister_7 (s : State) : readRegister 7 s = readVramData s := rfl
theorem readRegister_other {i : Nat} (h2 : i ≠ 2) (h4 : i ≠ 4) (h7 : i ≠ 7) (s : State) :
    readRegister i s = readUnreadable s := by
  rw [readRegister, if_neg h2, if_neg h4, if_neg h7]

/-- The suppression window changes the two suppression flags only. -/
theorem Ppu.suppress_eq (p : Ppu) :
    p.suppress = { p with suppressVbl := p.suppress.suppressVbl, suppressNmi := p.suppress.suppressNmi } := by
  unfold Ppu.suppress
  split
  · rfl
  · split <;> rfl

/-- What a read of a PPU register can change (R83, R333). -/
theorem readRegister_changes (i : Nat) (s : State) :
    ∃ b1 b2 b3 b4 rb v k, (readRegister i s).2 =
      { s with
        ppu := { s.ppu with vbl := b1, w := b2, suppressVbl := b3, suppressNmi := b4, readBuffer := rb, v := v }
        freeReads := k } := by
  by_cases h2 : i = 2
  · subst h2
    rw [readRegister_2, readStatus, Ppu.suppress_eq]
    exact ⟨_, _, _, _, s.ppu.readBuffer, s.ppu.v, s.freeReads, rfl⟩
  by_cases h4 : i = 4
  · subst h4
    exact ⟨s.ppu.vbl, s.ppu.w, s.ppu.suppressVbl, s.ppu.suppressNmi, s.ppu.readBuffer, s.ppu.v, s.freeReads, rfl⟩
  by_cases h7 : i = 7
  · subst h7
    rw [readRegister_7]
    unfold readVramData
    dsimp only
    split <;> exact ⟨s.ppu.vbl, s.ppu.w, s.ppu.suppressVbl, s.ppu.suppressNmi, _, _, s.freeReads, rfl⟩
  · rw [readRegister_other h2 h4 h7]
    exact ⟨s.ppu.vbl, s.ppu.w, s.ppu.suppressVbl, s.ppu.suppressNmi, s.ppu.readBuffer, s.ppu.v, _, rfl⟩

/-- What any bus read can change (R83). -/
theorem busRead_changes (a : Addr) (s : State) :
    ∃ b1 b2 b3 b4 rb v k, (busRead a s).2 =
      { s with
        ppu := { s.ppu with vbl := b1, w := b2, suppressVbl := b3, suppressNmi := b4, readBuffer := rb, v := v }
        freeReads := k } := by
  have self : ∃ b1 b2 b3 b4 rb v k, s =
      { s with
        ppu := { s.ppu with vbl := b1, w := b2, suppressVbl := b3, suppressNmi := b4, readBuffer := rb, v := v }
        freeReads := k } :=
    ⟨s.ppu.vbl, s.ppu.w, s.ppu.suppressVbl, s.ppu.suppressNmi, s.ppu.readBuffer, s.ppu.v, s.freeReads, rfl⟩
  simp only [busRead]
  split
  · exact self
  · split
    · exact readRegister_changes _ s
    · split
      · exact self
      · exact self

/-- The byte at an address outside the PPU window, as a function of RAM and cartridge (R70). -/
def plainByte (ram : Memory) (c : Cartridge) (a : Addr) : Byte :=
  if a.toNat < 0x2000 then ram.read (a.toNat % 0x800) else if a.toNat < 0x4020 then 0 else c.readPrg a

/-- Everything a read outside the PPU window does. -/
theorem busRead_plain_eq {a : Addr} (h : ¬inPpuWindow a) (s : State) : busRead a s = (plainByte s.ram s.cart a, s) := by
  simp only [inPpuWindow] at h
  by_cases h1 : a.toNat < 0x2000
  · rw [busRead, plainByte, if_pos h1, if_pos h1]; rfl
  · rw [busRead, plainByte, if_neg h1, if_neg h1, if_neg (by omega)]
    by_cases h2 : a.toNat < 0x4020
    · rw [if_pos h2, if_pos h2]
    · rw [if_neg h2, if_neg h2]

/-- Outside the PPU window a read has no side effect (R83). -/
theorem busRead_plain {a : Addr} (h : ¬inPpuWindow a) (s : State) : (busRead a s).2 = s := by
  rw [busRead_plain_eq h]

/-- Outside the PPU window the byte read depends on RAM and cartridge only. -/
theorem busRead_value {a : Addr} (h : ¬inPpuWindow a) {s t : State} (hr : t.ram = s.ram) (hc : t.cart = s.cart) :
    (busRead a t).1 = (busRead a s).1 := by
  rw [busRead_plain_eq h, busRead_plain_eq h, hr, hc]

theorem busRead_ram {a : Addr} (h : a.toNat < 0x2000) (s : State) : busRead a s = (s.ram.read (a.toNat % 0x800), s) := by
  simp [busRead, h, ramKey]

/-- Same RAM and cartridge, same bytes. -/
theorem SameBytes.of_eq {s t : State} (hr : t.ram = s.ram) (hc : t.cart = s.cart) : SameBytes s t :=
  fun _ h _ => busRead_value h hr hc

/-- A bus read leaves every byte of memory as it was. -/
theorem busRead_sameBytes (a : Addr) (s : State) : SameBytes s (busRead a s).2 ∧ SamePpuBytes s (busRead a s).2 := by
  obtain ⟨b1, b2, b3, b4, rb, v, k, h⟩ := busRead_changes a s
  rw [h]
  exact ⟨SameBytes.of_eq rfl rfl, fun _ => rfl, fun _ => rfl⟩

/-- A bus read leaves the CPU's registers, the latch and the cycle count. -/
theorem busRead_registers (a : Addr) (s : State) :
    SameRegisters s (busRead a s).2 ∧ (busRead a s).2.opCycles = s.opCycles ∧ (busRead a s).2.pending = s.pending ∧
      (busRead a s).2.ram = s.ram ∧ (busRead a s).2.cart = s.cart := by
  obtain ⟨b1, b2, b3, b4, rb, v, k, h⟩ := busRead_changes a s
  rw [h]
  simp [SameRegisters, SameIndexPc]

/-- The state with everything outside the CPU registers taken from `s`, and the registers and cycle count from `r`. -/
def State.outside (s r : State) : State :=
  { r with ram := s.ram, cart := s.cart, ppu := s.ppu, pending := s.pending, freeReads := s.freeReads }

theorem sameOutside_iff {s t : State} : SameOutside s t ↔ t = s.outside t := by
  constructor
  · rintro ⟨h1, h2, h3, h4, h5⟩
    cases t
    simp only at h1 h2 h3 h4 h5
    subst h1 h2 h3 h4 h5
    rfl
  · intro h
    rw [h]
    exact ⟨rfl, rfl, rfl, rfl, rfl⟩

theorem sameOutside_outside (s r : State) : SameOutside s (s.outside r) := ⟨rfl, rfl, rfl, rfl, rfl⟩

/-- A register read does not see the CPU's registers. -/
theorem readRegister_outside (i : Nat) (s r : State) :
    readRegister i (s.outside r) = ((readRegister i s).1, (readRegister i s).2.outside r) := by
  by_cases h2 : i = 2
  · subst h2; rfl
  by_cases h4 : i = 4
  · subst h4; rfl
  by_cases h7 : i = 7
  · subst h7
    rw [readRegister_7, readRegister_7]
    unfold readVramData
    dsimp only [State.outside]
    split <;> rfl
  · rw [readRegister_other h2 h4 h7, readRegister_other h2 h4 h7]; rfl

/-- A bus read does not see the CPU's registers. -/
theorem busRead_outside (a : Addr) (s r : State) : busRead a (s.outside r) = ((busRead a s).1, (busRead a s).2.outside r) := by
  unfold busRead
  split
  · rfl
  · split
    · exact readRegister_outside _ s r
    · split <;> rfl

/-- A bus read does not depend on the CPU's registers. -/
theorem busRead_of_same {a : Addr} {s t : State} (h : SameOutside s t) :
    (busRead a t).1 = (busRead a s).1 ∧ SameOutside (busRead a s).2 (busRead a t).2 := by
  rw [sameOutside_iff.1 h, busRead_outside]
  exact ⟨rfl, sameOutside_outside _ _⟩

/-! Writes -/

/-- What a write to a PPU register can change: the PPU, CHR memory and the latch (R312). -/
theorem writeRegister_changes (i : Nat) (v : Byte) (s : State) :
    ∃ u c q, writeRegister i v s = { s with ppu := u, cart := { s.cart with chr := c }, pending := q } := by
  have hw : ∀ u q, { s with ppu := u, pending := q } =
      { s with ppu := u, cart := { s.cart with chr := s.cart.chr }, pending := q } := fun _ _ => rfl
  simp only [writeRegister]
  split
  · simp only [writeCtrl]
    split
    · exact ⟨_, s.cart.chr, _, rfl⟩
    · exact ⟨_, s.cart.chr, s.pending, rfl⟩
  split
  · exact ⟨_, s.cart.chr, s.pending, rfl⟩
  split
  · exact ⟨s.ppu, s.cart.chr, s.pending, rfl⟩
  split
  · exact ⟨_, s.cart.chr, s.pending, rfl⟩
  split
  · exact ⟨_, s.cart.chr, s.pending, rfl⟩
  split
  · simp only [writeScroll]
    split <;> exact ⟨_, s.cart.chr, s.pending, rfl⟩
  split
  · simp only [writeVramAddr]
    split <;> exact ⟨_, s.cart.chr, s.pending, rfl⟩
  · simp only [writeVramData, ppuWrite]
    split
    · simp only [Cartridge.writeChr]
      split
      · exact ⟨_, _, s.pending, rfl⟩
      · exact ⟨_, s.cart.chr, s.pending, rfl⟩
    · split <;> exact ⟨_, s.cart.chr, s.pending, rfl⟩

/-- What a whole OAM DMA can change. -/
theorem dmaTransfer_changes (n : Nat) (a : Addr) (s : State) :
    ∃ u k, dmaTransfer n a s = { s with ppu := u, freeReads := k } := by
  induction n generalizing a s with
  | zero => exact ⟨s.ppu, s.freeReads, rfl⟩
  | succ n ih =>
    obtain ⟨b1, b2, b3, b4, rb, v, k, h⟩ := busRead_changes a s
    obtain ⟨u, k', h'⟩ := ih (a + 1) (writeRegister 4 (busRead a s).1 (busRead a s).2)
    refine ⟨u, k', ?_⟩
    rw [dmaTransfer, h', h]
    simp [writeRegister, writeOamData, State.setPpu]

/-- The RAM after a write. -/
theorem busWrite_ram {a : Addr} (h : a.toNat < 0x2000) (v : Byte) (s : State) :
    busWrite a v s = (0, s.setRam (s.ram.write (a.toNat % 0x800) v)) := by
  simp [busWrite, h, ramKey]

/-- What a write outside the PPU window and the DMA port does: it changes RAM or PRG RAM and nothing else (R71, R89). -/
theorem busWrite_plain {a : Addr} (h : ¬inPpuWindow a) (hd : a ≠ 0x4014#16) (v : Byte) (s : State) :
    ∃ m r, busWrite a v s = (0, { s with ram := m, cart := { s.cart with prgRam := r } }) := by
  simp only [inPpuWindow] at h
  have hd' : a.toNat ≠ 0x4014 := fun e => hd (BitVec.eq_of_toNat_eq e)
  by_cases h1 : a.toNat < 0x2000
  · rw [busWrite_ram h1]; exact ⟨_, s.cart.prgRam, rfl⟩
  · rw [busWrite, if_neg h1, if_neg (by omega), if_neg hd']
    split
    · exact ⟨s.ram, s.cart.prgRam, rfl⟩
    · unfold Cartridge.writePrg
      split <;> exact ⟨s.ram, _, rfl⟩

/-- The extra cycles of a write (R71, R79). -/
theorem busWrite_cycles (a : Addr) (v : Byte) (s : State) : (busWrite a v s).1 = if a = 0x4014#16 then 513 else 0 := by
  have hd : a = 0x4014#16 ↔ a.toNat = 0x4014 := ⟨fun e => by rw [e]; rfl, fun e => BitVec.eq_of_toNat_eq e⟩
  simp only [busWrite, hd]
  split
  · rw [if_neg (by omega)]
  · split
    · rw [if_neg (by omega)]
    · split
      · rfl
      · split <;> rfl

/-- What any bus write can change: RAM, PPU, PRG RAM, CHR memory, the latch and the count of free reads. -/
theorem busWrite_changes (a : Addr) (v : Byte) (s : State) :
    ∃ m u r c q k, (busWrite a v s).2 =
      { s with ram := m, ppu := u, cart := { s.cart with prgRam := r, chr := c }, pending := q, freeReads := k } := by
  simp only [busWrite]
  split
  · exact ⟨_, s.ppu, s.cart.prgRam, s.cart.chr, s.pending, s.freeReads, rfl⟩
  split
  · obtain ⟨u, c, q, h⟩ := writeRegister_changes (regIndex a) v s
    exact ⟨s.ram, u, s.cart.prgRam, c, q, s.freeReads, h⟩
  split
  · obtain ⟨u, k, h⟩ := dmaTransfer_changes 256 (word16 v 0) s
    exact ⟨s.ram, u, s.cart.prgRam, s.cart.chr, s.pending, k, by rw [h]⟩
  split
  · exact ⟨s.ram, s.ppu, s.cart.prgRam, s.cart.chr, s.pending, s.freeReads, rfl⟩
  · simp only [Cartridge.writePrg]
    split <;> exact ⟨s.ram, s.ppu, _, s.cart.chr, s.pending, s.freeReads, rfl⟩

/-- A write into PRG RAM (R89). -/
theorem busWrite_prgRam {a : Addr} (h1 : 0x6000 ≤ a.toNat) (h2 : a.toNat < 0x8000) (v : Byte) (s : State) :
    busWrite a v s = (0, s.setCart { s.cart with prgRam := s.cart.prgRam.write (a.toNat % 0x2000) v }) := by
  rw [busWrite, if_neg (by omega), if_neg (by omega), if_neg (by omega), if_neg (by omega), Cartridge.writePrg,
    if_pos ⟨h1, h2⟩]

/-- A write that stores no byte of the CPU's memory leaves RAM, PRG RAM, PRG ROM and the maps (R71, R76, R78, R89). -/
theorem busWrite_stores_nothing {a : Addr} (h : ¬storesByte a) (v : Byte) (s : State) :
    ∃ u c q k, (busWrite a v s).2 = { s with ppu := u, cart := { s.cart with chr := c }, pending := q, freeReads := k } := by
  simp only [storesByte, not_or] at h
  rw [busWrite, if_neg h.1]
  split
  · obtain ⟨u, c, q, h⟩ := writeRegister_changes (regIndex a) v s
    exact ⟨u, c, q, s.freeReads, h⟩
  split
  · obtain ⟨u, k, h⟩ := dmaTransfer_changes 256 (word16 v 0) s
    exact ⟨u, s.cart.chr, s.pending, k, by rw [h]⟩
  split
  · exact ⟨s.ppu, s.cart.chr, s.pending, s.freeReads, rfl⟩
  · rw [Cartridge.writePrg, if_neg h.2]
    exact ⟨s.ppu, s.cart.chr, s.pending, s.freeReads, rfl⟩

/-- A write replaces the stored bytes and no other byte of the CPU's memory (R72, R89). -/
theorem busWrite_bytes (a : Addr) (v : Byte) (s : State) :
    (∀ b, storedBytes a b → (busRead b (busWrite a v s).2).1 = v) ∧ SameBytesBut (storedBytes a) s (busWrite a v s).2 := by
  by_cases hr : a.toNat < 0x2000
  · rw [busWrite_ram hr]
    refine ⟨?_, ?_⟩
    · rintro b (⟨-, hb, hk⟩ | ⟨h1, -⟩)
      · rw [busRead_ram hb, State.setRam_ram, Memory.read_write, if_pos hk]
      · omega
    · intro b hb hs
      rw [busRead_plain_eq hb, busRead_plain_eq hb, State.setRam_ram, State.setRam_cart]
      by_cases hb2 : b.toNat < 0x2000
      · rw [plainByte, plainByte, if_pos hb2, if_pos hb2, Memory.read_write_other]
        exact fun hk => hs (.inl ⟨hr, hb2, hk⟩)
      · rw [plainByte, plainByte, if_neg hb2, if_neg hb2]
  by_cases hp : 0x6000 ≤ a.toNat ∧ a.toNat < 0x8000
  · rw [busWrite_prgRam hp.1 hp.2]
    refine ⟨?_, ?_⟩
    · rintro b (⟨h1, -⟩ | ⟨-, -, rfl⟩)
      · omega
      · rw [busRead_plain_eq (by simp only [inPpuWindow]; omega), State.setCart_cart, plainByte, if_neg hr, if_neg (by omega),
          Cartridge.readPrg, if_neg (by omega), if_pos hp.2, Memory.read_write_same]
    · intro b hb hs
      rw [busRead_plain_eq hb, busRead_plain_eq hb, State.setCart_ram, State.setCart_cart]
      by_cases hb2 : 0x6000 ≤ b.toNat ∧ b.toNat < 0x8000
      · rw [plainByte, plainByte, if_neg (by omega), if_neg (by omega), if_neg (by omega), if_neg (by omega),
          Cartridge.readPrg, Cartridge.readPrg, if_neg (by omega), if_pos hb2.2, if_neg (by omega), if_pos hb2.2,
          Memory.read_write_other]
        exact fun hk => hs (.inr ⟨hp.1, hp.2, BitVec.eq_of_toNat_eq (by omega)⟩)
      · unfold plainByte Cartridge.readPrg Cartridge.prgKey
        dsimp only
        split
        · rfl
        split
        · rfl
        split
        · rfl
        · rw [if_neg (by omega), if_neg (by omega)]
  · obtain ⟨u, c, q, k, h⟩ := busWrite_stores_nothing (a := a) (by simp only [storesByte]; omega) v s
    rw [h]
    refine ⟨?_, fun b hb _ => ?_⟩
    · rintro b (⟨h1, -⟩ | ⟨h1, h2, -⟩)
      · exact absurd h1 hr
      · exact absurd ⟨h1, h2⟩ hp
    · rw [busRead_plain_eq hb, busRead_plain_eq hb]
      rfl

/-- The address stored to is itself one of the stored bytes. -/
theorem storedBytes_self {a : Addr} (h : storesByte a) : storedBytes a a := by
  rcases h with h | h
  · exact .inl ⟨h, h, rfl⟩
  · exact .inr ⟨h.1, h.2, rfl⟩

/-- The frame of a bus write. -/
theorem busWrite_storesOnly (a : Addr) (v : Byte) (s : State) : StoresOnly a v s (busWrite a v s).2 := by
  refine ⟨fun h => (busWrite_bytes a v s).1 a (storedBytes_self h), (busWrite_bytes a v s).2, fun hw hd => ?_⟩
  obtain ⟨m, r, h⟩ := busWrite_plain hw hd v s
  rw [h]
  refine ⟨rfl, rfl, rfl, fun _ => rfl, fun _ => rfl⟩

/-- A register write does not see the CPU's registers. -/
theorem writeRegister_outside (i : Nat) (v : Byte) (s r : State) :
    writeRegister i v (s.outside r) = (writeRegister i v s).outside r := by
  unfold writeRegister
  split
  · by_cases h : s.ppu.nmiOnVbl = false ∧ v.getLsbD 7 = true ∧ s.ppu.vbl = true
    · have h' : (s.outside r).ppu.nmiOnVbl = false ∧ v.getLsbD 7 = true ∧ (s.outside r).ppu.vbl = true := h
      rw [writeCtrl, writeCtrl, if_pos h, if_pos h']; rfl
    · have h' : ¬((s.outside r).ppu.nmiOnVbl = false ∧ v.getLsbD 7 = true ∧ (s.outside r).ppu.vbl = true) := h
      rw [writeCtrl, writeCtrl, if_neg h, if_neg h']; rfl
  split
  · rfl
  split
  · rfl
  split
  · rfl
  split
  · rfl
  split
  · by_cases h : s.ppu.w = true
    · have h' : (s.outside r).ppu.w = true := h
      rw [writeScroll, writeScroll, if_pos h, if_pos h']; rfl
    · have h' : ¬(s.outside r).ppu.w = true := h
      rw [writeScroll, writeScroll, if_neg h, if_neg h']; rfl
  split
  · by_cases h : s.ppu.w = true
    · have h' : (s.outside r).ppu.w = true := h
      rw [writeVramAddr, writeVramAddr, if_pos h, if_pos h']; rfl
    · have h' : ¬(s.outside r).ppu.w = true := h
      rw [writeVramAddr, writeVramAddr, if_neg h, if_neg h']; rfl
  · rfl

/-- A DMA does not see the CPU's registers. -/
theorem dmaTransfer_outside (n : Nat) (a : Addr) (s r : State) :
    dmaTransfer n a (s.outside r) = (dmaTransfer n a s).outside r := by
  induction n generalizing a s with
  | zero => rfl
  | succ n ih => rw [dmaTransfer, busRead_outside, writeRegister_outside, ih]; rfl

/-- A bus write does not see the CPU's registers. -/
theorem busWrite_outside (a : Addr) (v : Byte) (s r : State) :
    busWrite a v (s.outside r) = ((busWrite a v s).1, (busWrite a v s).2.outside r) := by
  unfold busWrite
  split
  · rfl
  split
  · rw [writeRegister_outside]
  split
  · rw [dmaTransfer_outside]
  split <;> rfl

/-- A bus write does not depend on the CPU's registers. -/
theorem busWrite_of_same {a : Addr} {v : Byte} {s t : State} (h : SameOutside s t) :
    SameOutside (busWrite a v s).2 (busWrite a v t).2 := by
  rw [sameOutside_iff.1 h, busWrite_outside]
  exact sameOutside_outside _ _

/-! The stack -/

theorem stackAddr_lt (sp : Byte) : (stackAddr sp).toNat < 0x2000 := by
  have := sp.isLt
  rw [stackAddr_toNat]; omega

theorem stackKey (sp : Byte) : (stackAddr sp).toNat % 0x800 = 256 + sp.toNat := by
  have := sp.isLt
  rw [stackAddr_toNat]; omega

/-- Everything a push does (R27). -/
theorem push_eq (v : Byte) (s : State) :
    push v s = (s.setRam (s.ram.write (256 + s.sp.toNat) v)).setSp (s.sp - 1) := by
  simp only [push, store, busWrite_ram (stackAddr_lt _), stackKey]
  rfl

/-- Everything a pop does (R27). -/
theorem pop_eq (s : State) : pop s = (s.ram.read (256 + (s.sp + 1).toNat), s.setSp (s.sp + 1)) := by
  simp only [pop, busRead_ram (stackAddr_lt _), stackKey]
  rfl

/-- Everything two pushes do. -/
theorem pushWord_eq (hi lo : Byte) (s : State) :
    pushWord hi lo s =
      (s.setRam ((s.ram.write (256 + s.sp.toNat) hi).write (256 + (s.sp - 1).toNat) lo)).setSp (s.sp - 1 - 1) := by
  simp only [pushWord, push_eq]
  rfl

/-- Everything two pops do. -/
theorem popWord_eq (s : State) :
    popWord s = (word16 (s.ram.read (256 + (s.sp + 1 + 1).toNat)) (s.ram.read (256 + (s.sp + 1).toNat)),
      s.setSp (s.sp + 1 + 1)) := by
  simp only [popWord, pop_eq]
  rfl

/-- Reading a word outside the PPU window. -/
theorem busRead16_plain {a b : Addr} (ha : ¬inPpuWindow a) (hb : ¬inPpuWindow b) (s : State) :
    busRead16 a b s = (word16 (busRead b s).1 (busRead a s).1, s) := by
  simp only [busRead16, busRead_plain ha, busRead_plain hb]

end Sys2Proof.Machine
end

