-- ==== Sys2Proof/Laws/Dots.lean ====
section
/-! SUPPORT. Laws/Dots.lean: what the actions of a dot leave alone, and how the position moves. -/

namespace Sys2Proof.Machine

/-- What no dot changes (R350 to R392): the registers a program writes, `t`, fine-X, `w`, the read buffer, the nametables,
the palette and OAM; and, before the move to the next dot, the position. -/
structure DotFrame (p q : Ppu) : Prop where
  ctrl : q.ctrl = p.ctrl
  mask : q.mask = p.mask
  t : q.t = p.t
  fineX : q.fineX = p.fineX
  w : q.w = p.w
  readBuffer : q.readBuffer = p.readBuffer
  scanline : q.scanline = p.scanline
  dot : q.dot = p.dot
  oddFrame : q.oddFrame = p.oddFrame
  ntA : q.ntA = p.ntA
  ntB : q.ntB = p.ntB
  palette : q.palette = p.palette
  oam : q.oam = p.oam

theorem DotFrame.refl (p : Ppu) : DotFrame p p := by constructor <;> rfl

theorem DotFrame.trans {p q r : Ppu} (h : DotFrame p q) (k : DotFrame q r) : DotFrame p r := by
  constructor
  · rw [k.ctrl, h.ctrl]
  · rw [k.mask, h.mask]
  · rw [k.t, h.t]
  · rw [k.fineX, h.fineX]
  · rw [k.w, h.w]
  · rw [k.readBuffer, h.readBuffer]
  · rw [k.scanline, h.scanline]
  · rw [k.dot, h.dot]
  · rw [k.oddFrame, h.oddFrame]
  · rw [k.ntA, h.ntA]
  · rw [k.ntB, h.ntB]
  · rw [k.palette, h.palette]
  · rw [k.oam, h.oam]

theorem flagActions_frame (p : Ppu) : DotFrame p (flagActions p) := by
  unfold flagActions
  repeat' split
  all_goals constructor <;> rfl

theorem evaluateFrom_frame (k n : Nat) (p : Ppu) : DotFrame p (evaluateFrom k n p) := by
  induction k generalizing n p with
  | zero => exact DotFrame.refl p
  | succ k ih =>
    unfold evaluateFrom
    split
    · split
      · exact DotFrame.trans (by constructor <;> rfl) (ih _ _)
      · constructor <;> rfl
    · exact ih _ _

theorem spriteActions_frame (c : Cartridge) (p : Ppu) : DotFrame p (spriteActions c p) := by
  unfold spriteActions
  split
  · split
    · constructor <;> rfl
    split
    · exact evaluateFrom_frame 64 0 p
    split
    · constructor <;> rfl
    · exact DotFrame.refl p
  · exact DotFrame.refl p

theorem reloadAction_frame (p : Ppu) : DotFrame p (reloadAction p) := by
  unfold reloadAction
  split
  · constructor <;> rfl
  · exact DotFrame.refl p

theorem pixelAction_frame (p : Ppu) : DotFrame p (pixelAction p) := by
  unfold pixelAction
  split
  · constructor <;> rfl
  · exact DotFrame.refl p

theorem shiftAction_frame (p : Ppu) : DotFrame p (shiftAction p) := by
  unfold shiftAction
  split
  · constructor <;> rfl
  · exact DotFrame.refl p

theorem fetchAction_frame (c : Cartridge) (p : Ppu) : DotFrame p (fetchAction c p) := by
  unfold fetchAction
  split
  · constructor <;> rfl
  · exact DotFrame.refl p

theorem dot256_frame (p : Ppu) : DotFrame p (dot256 p) := by
  unfold dot256
  by_cases h : p.active = true
  · simp only [if_pos h]
    split <;> constructor <;> rfl
  · simp only [if_neg h]
    split <;> constructor <;> rfl

theorem lateActions_frame (p : Ppu) : DotFrame p (lateActions p) := by
  unfold lateActions
  split
  · exact dot256_frame p
  split
  · constructor <;> rfl
  split
  · constructor <;> rfl
  · exact DotFrame.refl p

/-- The actions of a dot change none of these. -/
theorem dotActions_frame (c : Cartridge) (p : Ppu) : DotFrame p (dotActions c p) :=
  (flagActions_frame p).trans ((spriteActions_frame c _).trans ((reloadAction_frame _).trans ((pixelAction_frame _).trans
    ((shiftAction_frame _).trans ((fetchAction_frame c _).trans (lateActions_frame _))))))

/-- The position (scanline, dot) and parity after a dot at a position, parity and `Mask.bgEnable` (R351). -/
def nextPosition (y d : Nat) (odd bg : Bool) : Nat × Nat × Bool :=
  if d + 1 < (if y = 20 ∧ odd = true ∧ bg = true then 340 else 341) then (y, d + 1, odd)
  else if y + 1 = 262 then (0, 0, !odd) else (y + 1, 0, odd)

/-- The move to the next position changes the position and the parity only. -/
theorem advanceDot_eq (p : Ppu) :
    advanceDot p = { p with
      scanline := (nextPosition p.scanline p.dot p.oddFrame p.bgEnable).1
      dot := (nextPosition p.scanline p.dot p.oddFrame p.bgEnable).2.1
      oddFrame := (nextPosition p.scanline p.dot p.oddFrame p.bgEnable).2.2 } := by
  unfold advanceDot nextPosition Ppu.lineLength
  by_cases h : p.dot + 1 < (if p.scanline = 20 ∧ p.oddFrame = true ∧ p.bgEnable = true then 340 else 341)
  · rw [if_pos h, if_pos h]
  · rw [if_neg h, if_neg h]
    by_cases h2 : p.scanline + 1 = 262
    · rw [if_pos h2, if_pos h2]
    · rw [if_neg h2, if_neg h2]

/-- What a dot changes: the PPU and, by its NMI request, the latch. -/
theorem executeDot_eq (s : State) :
    executeDot s = { s with
      ppu := advanceDot (dotActions s.cart s.ppu)
      pending := if s.ppu.requestsNmi = true then s.pending.requestNmi else s.pending } := by
  by_cases h : s.ppu.requestsNmi = true
  · rw [executeDot, if_pos h, if_pos h]
    simp only [raiseNmi, State.setPending, State.setPpu]
  · rw [executeDot, if_neg h, if_neg h]
    simp only [State.setPpu]

/-- The position and parity after a dot. -/
theorem executeDot_position (s : State) :
    ((executeDot s).ppu.scanline, (executeDot s).ppu.dot, (executeDot s).ppu.oddFrame) =
      nextPosition s.ppu.scanline s.ppu.dot s.ppu.oddFrame s.ppu.bgEnable := by
  have h := dotActions_frame s.cart s.ppu
  rw [executeDot_eq, advanceDot_eq]
  simp only [h.scanline, h.dot, h.oddFrame, Ppu.bgEnable, h.mask]

/-- What a dot leaves alone. -/
theorem executeDot_frame (s : State) :
    SameRegisters s (executeDot s) ∧ (executeDot s).opCycles = s.opCycles ∧ (executeDot s).ram = s.ram ∧
      (executeDot s).cart = s.cart ∧ (executeDot s).freeReads = s.freeReads ∧
      (executeDot s).ppu.ctrl = s.ppu.ctrl ∧ (executeDot s).ppu.mask = s.ppu.mask ∧ (executeDot s).ppu.t = s.ppu.t ∧
      (executeDot s).ppu.fineX = s.ppu.fineX ∧ (executeDot s).ppu.w = s.ppu.w ∧
      (executeDot s).ppu.readBuffer = s.ppu.readBuffer ∧ (executeDot s).ppu.ntA = s.ppu.ntA ∧
      (executeDot s).ppu.ntB = s.ppu.ntB ∧ (executeDot s).ppu.palette = s.ppu.palette ∧
      (executeDot s).ppu.oam = s.ppu.oam := by
  rw [executeDot_eq]
  have h := dotActions_frame s.cart s.ppu
  rw [advanceDot_eq]
  exact ⟨⟨⟨rfl, rfl, rfl, rfl⟩, rfl, rfl⟩, rfl, rfl, rfl, rfl, h.ctrl, h.mask, h.t, h.fineX, h.w, h.readBuffer, h.ntA,
    h.ntB, h.palette, h.oam⟩

/-- A property that every dot keeps is kept by any number of dots. -/
theorem executeCycles_induct {P : State → Prop} (hd : ∀ s, P s → P (executeDot s)) (n : Nat) (s : State) (h : P s) :
    P (executeCycles n s) := by
  induction n generalizing s with
  | zero => exact h
  | succ n ih => exact ih _ (hd s h)

/-- Dots add up. -/
theorem executeCycles_add (m n : Nat) (s : State) : executeCycles (m + n) s = executeCycles n (executeCycles m s) := by
  induction m generalizing s with
  | zero => rw [Nat.zero_add]; rfl
  | succ m ih => rw [Nat.succ_add]; exact ih _

theorem executeCycles_succ (n : Nat) (s : State) : executeCycles (n + 1) s = executeDot (executeCycles n s) :=
  executeCycles_add n 1 s

/-- The position as one number moves on by one, within a frame, when the frame is not short. -/
theorem nextPosition_long {y d : Nat} {odd bg : Bool} (hd : d < 341) (hs : ¬(odd = true ∧ bg = true))
    (hp : 341 * y + d < 89341) :
    341 * (nextPosition y d odd bg).1 + (nextPosition y d odd bg).2.1 = 341 * y + d + 1 ∧
      (nextPosition y d odd bg).2.1 < 341 ∧ (nextPosition y d odd bg).2.2 = odd := by
  rw [nextPosition, if_neg (c := _ ∧ _ ∧ _) (fun h => hs h.2)]
  by_cases h : d + 1 < 341
  · rw [if_pos h]; exact ⟨by dsimp only; omega, h, rfl⟩
  · rw [if_neg h, if_neg (by omega)]; exact ⟨by dsimp only; omega, by dsimp only; omega, rfl⟩

/-- In a short frame it skips the last dot of scanline 20. -/
theorem nextPosition_short {y d : Nat} {odd bg : Bool} (hd : d < 341) (hs : odd = true ∧ bg = true)
    (hp : 341 * y + d < 89341) :
    341 * (nextPosition y d odd bg).1 + (nextPosition y d odd bg).2.1 =
        (if 341 * y + d = 7159 then 7161 else 341 * y + d + 1) ∧
      (nextPosition y d odd bg).2.1 < 341 ∧ (nextPosition y d odd bg).2.2 = odd := by
  rw [nextPosition]
  by_cases h20 : y = 20
  · rw [if_pos (c := _ ∧ _ ∧ _) ⟨h20, hs⟩]
    by_cases h : d + 1 < 340
    · rw [if_pos h, if_neg (by omega)]; exact ⟨by dsimp only; omega, by dsimp only; omega, rfl⟩
    · rw [if_neg h, if_neg (c := y + 1 = 262) (by omega)]
      refine ⟨?_, by dsimp only; omega, rfl⟩
      by_cases h9 : d = 339
      · rw [if_pos (by omega)]; dsimp only; omega
      · rw [if_neg (by omega)]; dsimp only; omega
  · rw [if_neg (c := _ ∧ _ ∧ _) (fun h => h20 h.1), if_neg (c := 341 * y + d = 7159) (by omega)]
    by_cases h : d + 1 < 341
    · rw [if_pos h]; exact ⟨by dsimp only; omega, h, rfl⟩
    · rw [if_neg h, if_neg (by omega)]; exact ⟨by dsimp only; omega, by dsimp only; omega, rfl⟩

/-- The frame parity and `Mask.bgEnable` shorten scanline 20 of this frame (R351). -/
def Ppu.shortFrame (p : Ppu) : Prop := p.oddFrame = true ∧ p.bgEnable = true

/-- The position within a frame after `k` dots from position (0, 0): it is `k`, or one more after the dot that a short
frame leaves out (R351, R393). -/
theorem position_after (s : State) (h0 : s.ppu.position = 0) (k : Nat) :
    (¬s.ppu.shortFrame → k ≤ 89341 →
      (executeCycles k s).ppu.position = k ∧ (executeCycles k s).ppu.dot < 341 ∧
        (executeCycles k s).ppu.oddFrame = s.ppu.oddFrame) ∧
    (s.ppu.shortFrame → k ≤ 89340 →
      (executeCycles k s).ppu.position = (if k < 7160 then k else k + 1) ∧ (executeCycles k s).ppu.dot < 341 ∧
        (executeCycles k s).ppu.oddFrame = s.ppu.oddFrame) := by
  have hm : ∀ k, (executeCycles k s).ppu.bgEnable = s.ppu.bgEnable := fun k =>
    executeCycles_induct (P := fun u => u.ppu.bgEnable = s.ppu.bgEnable)
      (fun u hu => by rw [← hu, Ppu.bgEnable, Ppu.bgEnable, (executeDot_frame u).2.2.2.2.2.2.1]) k s rfl
  have start : s.ppu.dot = 0 := by simp only [Ppu.position] at h0; omega
  have move : ∀ k,
      (executeCycles (k + 1) s).ppu.scanline = (nextPosition (executeCycles k s).ppu.scanline
        (executeCycles k s).ppu.dot (executeCycles k s).ppu.oddFrame s.ppu.bgEnable).1 ∧
      (executeCycles (k + 1) s).ppu.dot = (nextPosition (executeCycles k s).ppu.scanline
        (executeCycles k s).ppu.dot (executeCycles k s).ppu.oddFrame s.ppu.bgEnable).2.1 ∧
      (executeCycles (k + 1) s).ppu.oddFrame = (nextPosition (executeCycles k s).ppu.scanline
        (executeCycles k s).ppu.dot (executeCycles k s).ppu.oddFrame s.ppu.bgEnable).2.2 := fun k => by
    rw [executeCycles_succ, ← hm k, ← executeDot_position]
    exact ⟨rfl, rfl, rfl⟩
  constructor
  · intro hs
    induction k with
    | zero => exact fun _ => ⟨h0, by rw [executeCycles, start]; omega, rfl⟩
    | succ k ih =>
      intro hk
      obtain ⟨h1, h2, h3⟩ := ih (by omega)
      obtain ⟨m1, m2, m3⟩ := move k
      have hp : 341 * (executeCycles k s).ppu.scanline + (executeCycles k s).ppu.dot = k := h1
      have hp2 : 341 * (executeCycles k s).ppu.scanline + (executeCycles k s).ppu.dot < 89341 := by omega
      obtain ⟨n1, n2, n3⟩ := nextPosition_long (odd := (executeCycles k s).ppu.oddFrame) (bg := s.ppu.bgEnable) h2
        (by rw [h3]; exact hs) hp2
      rw [← m1, ← m2] at n1
      rw [← m2] at n2
      rw [← m3, h3] at n3
      exact ⟨by rw [Ppu.position]; omega, n2, n3⟩
  · intro hs
    induction k with
    | zero => exact fun _ => ⟨h0, by rw [executeCycles, start]; omega, rfl⟩
    | succ k ih =>
      intro hk
      obtain ⟨h1, h2, h3⟩ := ih (by omega)
      obtain ⟨m1, m2, m3⟩ := move k
      have hp : 341 * (executeCycles k s).ppu.scanline + (executeCycles k s).ppu.dot = if k < 7160 then k else k + 1 := h1
      have hp2 : 341 * (executeCycles k s).ppu.scanline + (executeCycles k s).ppu.dot < 89341 := by
        rw [hp]; split <;> omega
      obtain ⟨n1, n2, n3⟩ := nextPosition_short (odd := (executeCycles k s).ppu.oddFrame) (bg := s.ppu.bgEnable) h2
        (by rw [h3]; exact hs) hp2
      rw [← m1, ← m2] at n1
      rw [← m2] at n2
      rw [← m3, h3] at n3
      refine ⟨?_, n2, n3⟩
      rw [Ppu.position, n1, hp]
      clear hp hp2 n1 n2 n3 m1 m2 m3 h1 h2 h3 ih hm move
      by_cases ha : k < 7159
      · rw [if_pos (by omega : k < 7160), if_neg (by omega), if_pos (by omega)]
      · by_cases hb : k = 7159
        · subst hb; rfl
        · rw [if_neg (by omega : ¬k < 7160), if_neg (by omega), if_neg (by omega)]

end Sys2Proof.Machine
end

