-- ==== Sys2Proof/Laws/Operands.lean ====
section
/-! SUPPORT. Laws/Operands.lean: what the address calculators and the operand helpers do. -/

namespace Sys2Proof.Machine

theorem zeroPage_lt (b : Byte) : (zeroPage b).toNat < 0x2000 := by
  have := b.isLt
  rw [zeroPage_toNat]; omega

/-- A pointer in the zero page is read without a side effect (R158, R159). -/
theorem busRead16_zeroPage (b c : Byte) (s : State) :
    busRead16 (zeroPage b) (zeroPage c) s = (word16 (s.ram.read c.toNat) (s.ram.read b.toNat), s) := by
  have hb := b.isLt
  have hc := c.isLt
  simp only [busRead16, busRead_ram (zeroPage_lt _), zeroPage_toNat]
  rw [Nat.mod_eq_of_lt (by omega), Nat.mod_eq_of_lt (by omega)]

/-- Every mode but IND leaves the state alone (R150). -/
theorem effAddr_state (o : Operand) (h : ∀ a, o ≠ .ind a) (s : State) : (effAddr o s).2 = s := by
  cases o <;> simp only [effAddr, busRead16_zeroPage]
  exact absurd rfl (h _)

/-- The address depends on X, Y, PC and RAM only, in every mode but IND. -/
theorem effAddr_congr (o : Operand) (h : ∀ a, o ≠ .ind a) {s t : State} (hx : t.x = s.x) (hy : t.y = s.y)
    (hp : t.pc = s.pc) (hr : t.ram = s.ram) : (effAddr o t).1 = (effAddr o s).1 := by
  cases o <;> simp only [effAddr, busRead16_zeroPage, hx, hy, hp, hr]
  exact absurd rfl (h _)

/-- The only instruction in mode IND is JMP (R157). -/
theorem operand_ne_ind {i : Instr} (h : i.mnemonic ≠ .jmp) (a : Addr) : i.operand ≠ .ind a := by
  intro e
  cases i <;> first | (exact absurd rfl h) | (simp [Instr.operand, Instr.row] at e)

/-- Loading from an effective address is one bus read (R163). -/
theorem loadOperand_some {o : Operand} {k : EffAddr} {a : Addr} (hm : ∀ v, o ≠ .imm v) (h : k.ea = some a) (s : State) :
    loadOperand o k s = busRead a s := by
  cases o <;> first | (exact absurd rfl (hm _)) | (unfold loadOperand; rw [h])

/-- Without an effective address nothing is read. -/
theorem loadOperand_none {o : Operand} {k : EffAddr} (h : k.ea = none) (s : State) : (loadOperand o k s).2 = s := by
  cases o <;> first | rfl | (unfold loadOperand; rw [h])

/-- A read of a memory operand is one bus read at the effective address (R163, R164). -/
theorem readOperand_some {o : Operand} {s : State} {a : Addr} (hi : ∀ a, o ≠ .ind a) (hm : ∀ v, o ≠ .imm v)
    (h : (effAddr o s).1.ea = some a) : readOperand o s = busRead a (s.addCycles (effAddr o s).1.crossed.toNat) := by
  rw [readOperand, effAddr_state o hi, loadOperand_some hm h]

/-- The operand of an immediate (R152). -/
theorem readOperand_imm (v : Byte) (s : State) : readOperand (.imm v) s = (v, s.addCycles 0) := rfl

/-- A store, with the cycles the write returns (R166). -/
theorem store_eq (a : Addr) (v : Byte) (s : State) :
    store a v s = (busWrite a v s).2.addCycles (if a = 0x4014#16 then 513 else 0) := by
  rw [store, ← busWrite_cycles a v s]

/-- A read operand changes no register, and what it changes outside is what one bus read changes. -/
theorem readOperand_frame (o : Operand) (hi : ∀ a, o ≠ .ind a) (s : State) :
    SameRegisters s (readOperand o s).2 ∧ (readOperand o s).2.opCycles = s.opCycles + (effAddr o s).1.crossed.toNat ∧
      (readOperand o s).2.pending = s.pending ∧ (readOperand o s).2.cart = s.cart ∧ (readOperand o s).2.ram = s.ram ∧
      SameBytes s (readOperand o s).2 ∧ SamePpuBytes s (readOperand o s).2 := by
  have done : ∀ n, SameRegisters s (s.addCycles n) ∧ (s.addCycles n).opCycles = s.opCycles + n ∧
      (s.addCycles n).pending = s.pending ∧ (s.addCycles n).cart = s.cart ∧ (s.addCycles n).ram = s.ram ∧
      SameBytes s (s.addCycles n) ∧ SamePpuBytes s (s.addCycles n) := fun n =>
    ⟨⟨⟨rfl, rfl, rfl, rfl⟩, rfl, rfl⟩, rfl, rfl, rfl, rfl, SameBytes.of_eq rfl rfl, fun _ => rfl, fun _ => rfl⟩
  by_cases hm : ∃ v, o = .imm v
  · obtain ⟨v, rfl⟩ := hm
    exact done 0
  cases he : (effAddr o s).1.ea with
  | none =>
    have : (readOperand o s).2 = s.addCycles (effAddr o s).1.crossed.toNat := by
      rw [readOperand, effAddr_state o hi, loadOperand_none he]
    rw [this]; exact done _
  | some a =>
    rw [readOperand_some hi (fun v hv => hm ⟨v, hv⟩) he]
    obtain ⟨⟨⟨h1, h2, h3, h4⟩, h5, h6⟩, h7, h8, h9, h10⟩ := busRead_registers a (s.addCycles (effAddr o s).1.crossed.toNat)
    obtain ⟨b1, b2⟩ := busRead_sameBytes a (s.addCycles (effAddr o s).1.crossed.toNat)
    exact ⟨⟨⟨h1, h2, h3, h4⟩, h5, h6⟩, h7, h8, h10, h9, SameBytes.of_eq h9 h10, b2⟩

/-- A store of `v` at an effective address (R163). -/
theorem writeOperand_some {o : Operand} {s : State} {a : Addr} (v : Byte) (hi : ∀ a, o ≠ .ind a)
    (h : (effAddr o s).1.ea = some a) : writeOperand o v s = store a v s := by
  rw [writeOperand, effAddr_state o hi, storeOperand, h]

/-- A read-modify-write at an effective address: one read, then one write (R82, R163, R220). -/
theorem modifyOperand_some {o : Operand} {s : State} {a : Addr} (f : Byte → Byte → Byte × Byte) (hi : ∀ a, o ≠ .ind a)
    (hm : ∀ v, o ≠ .imm v) (h : (effAddr o s).1.ea = some a) :
    modifyOperand f o s =
      ((f (busRead a s).1 s.p).1, store a (f (busRead a s).1 s.p).1 ((busRead a s).2.setP (f (busRead a s).1 s.p).2)) := by
  have hp : (busRead a s).2.p = s.p := (busRead_registers a s).1.2.2
  rw [modifyOperand, effAddr_state o hi, loadOperand_some hm h, hp, storeOperand, h]

/-- A read-modify-write of the accumulator (R151, R163). -/
theorem modifyOperand_acc (f : Byte → Byte → Byte × Byte) (s : State) :
    modifyOperand f .acc s = ((f s.a s.p).1, (s.setP (f s.a s.p).2).setA (f s.a s.p).1) := rfl

end Sys2Proof.Machine
end

