-- ==== Sys2Proof/Laws/Exec.lean ====
section
/-! SUPPORT. Laws/Exec.lean: every instruction as one function of its mnemonic, operand and opcode, that it answers a next state, and
the one induction over everything an instruction or a service can do to the state. -/

namespace Sys2Proof.Machine

/-- The meaning of an instruction by mnemonic, in the state with the base cycles credited. -/
def meaning (m : Mnemonic) (o : Operand) (op : Byte) (s : State) : State :=
  match m with
  | .brk => opBrk s
  | .ora => opOra o s
  | .unl => opUnl op s
  | .slo => opSlo o s
  | .dop => opDop o s
  | .asl => opAsl o s
  | .php => opPhp s
  | .top => opTop o s
  | .bpl => match o with | .rel d => opBpl d s | _ => s
  | .clc => opClc s
  | .nop1 => opNop1 s
  | .jsr => opJsr o s
  | .and => opAnd o s
  | .rla => opRla o s
  | .bit => opBit o s
  | .rol => opRol o s
  | .plp => opPlp s
  | .bmi => match o with | .rel d => opBmi d s | _ => s
  | .sec => opSec s
  | .rti => opRti s
  | .eor => opEor o s
  | .sre => opSre o s
  | .lsr => opLsr o s
  | .pha => opPha s
  | .jmp => opJmp o s
  | .bvc => match o with | .rel d => opBvc d s | _ => s
  | .cli => opCli s
  | .rts => opRts s
  | .adc => opAdc o s
  | .rra => opRra o s
  | .ror => opRor o s
  | .pla => opPla s
  | .bvs => match o with | .rel d => opBvs d s | _ => s
  | .sei => opSei s
  | .sta => opSta o s
  | .sax => opSax o s
  | .sty => opSty o s
  | .stx => opStx o s
  | .dey => opDey s
  | .txa => opTxa s
  | .bcc => match o with | .rel d => opBcc d s | _ => s
  | .tya => opTya s
  | .txs => opTxs s
  | .ldy => opLdy o s
  | .lda => opLda o s
  | .ldx => opLdx o s
  | .lax => opLax o s
  | .tay => opTay s
  | .tax => opTax s
  | .bcs => match o with | .rel d => opBcs d s | _ => s
  | .clv => opClv s
  | .tsx => opTsx s
  | .cpy => opCpy o s
  | .cmp => opCmp o s
  | .dcp => opDcp o s
  | .dec => opDec o s
  | .iny => opIny s
  | .dex => opDex s
  | .bne => match o with | .rel d => opBne d s | _ => s
  | .cld => opCld s
  | .cpx => opCpx o s
  | .sbc => opSbc o s
  | .isc => opIsc o s
  | .inc => opInc o s
  | .inx => opInx s
  | .nop => opNop s
  | .usbc => opUsbc o s
  | .beq => match o with | .rel d => opBeq d s | _ => s
  | .sed => opSed s

/-- Executing an instruction is its meaning (all 256 constructors). -/
theorem exec_eq (i : Instr) (s : State) :
    exec i s = .next (meaning i.mnemonic i.operand i.opcode (s.credit i.opcode)) := by
  cases i <;> rfl

/-- Every instruction answers a next state. -/
theorem exec_next (i : Instr) (s : State) : ∃ t, exec i s = .next t := ⟨_, exec_eq i s⟩
/-! One induction -/

/-- A property of states that the updates of the CPU's registers keep (of P those that keep bit 5 set), and so do a bus read and a
bus write. -/
structure Stable (P : State → Prop) : Prop where
  setA : ∀ {s} v, P s → P (s.setA v)
  setX : ∀ {s} v, P s → P (s.setX v)
  setY : ∀ {s} v, P s → P (s.setY v)
  setSp : ∀ {s} v, P s → P (s.setSp v)
  setPc : ∀ {s} v, P s → P (s.setPc v)
  setCycles : ∀ {s} n, P s → P (s.setCycles n)
  setP : ∀ {s} v, (flagR s.p = true → flagR v = true) → P s → P (s.setP v)
  read : ∀ {s} a, P s → P (busRead a s).2
  write : ∀ {s} a v, P s → P (busWrite a v s).2

variable {P : State → Prop}

theorem Stable.addCycles (h : Stable P) {s : State} (n : Nat) (hs : P s) : P (s.addCycles n) := h.setCycles _ hs

theorem Stable.store (h : Stable P) {s : State} (a : Addr) (v : Byte) (hs : P s) : P (store a v s) := by
  rw [store_eq]; exact h.addCycles _ (h.write a v hs)

theorem Stable.push (h : Stable P) {s : State} (v : Byte) (hs : P s) : P (push v s) := h.setSp _ (h.store _ v hs)

theorem Stable.pop (h : Stable P) {s : State} (hs : P s) : P (pop s).2 := h.read _ (h.setSp _ hs)

theorem Stable.pushWord (h : Stable P) {s : State} (hi lo : Byte) (hs : P s) : P (pushWord hi lo s) :=
  h.push lo (h.push hi hs)

theorem Stable.popWord (h : Stable P) {s : State} (hs : P s) : P (popWord s).2 := h.pop (h.pop hs)

theorem Stable.read16 (h : Stable P) {s : State} (a b : Addr) (hs : P s) : P (busRead16 a b s).2 := h.read b (h.read a hs)

theorem Stable.enterVector (h : Stable P) {s : State} (pcl st : Byte) (v : Addr) (hs : P s) : P (enterVector pcl st v s) :=
  h.setPc _ (h.read16 _ _ (h.push st (h.pushWord _ pcl hs)))

theorem pulledStatus_flagR (v : Byte) : flagR (pulledStatus v) = true := by
  simp [pulledStatus, flagR]

theorem Stable.returnFromVector (h : Stable P) {s : State} (hs : P s) : P (returnFromVector s) :=
  h.setPc _ (h.popWord (h.setP _ (fun _ => pulledStatus_flagR _) (h.pop hs)))

theorem Stable.effAddr (h : Stable P) {s : State} (o : Operand) (hs : P s) : P (effAddr o s).2 := by
  cases o <;> first | exact hs | exact h.read16 _ _ hs

theorem Stable.loadOperand (h : Stable P) {s : State} (o : Operand) (k : EffAddr) (hs : P s) : P (loadOperand o k s).2 := by
  cases hk : k.ea with
  | none => rw [loadOperand_none hk]; exact hs
  | some a =>
    by_cases hm : ∃ v, o = .imm v
    · obtain ⟨v, rfl⟩ := hm; exact hs
    · rw [loadOperand_some (fun v hv => hm ⟨v, hv⟩) hk]; exact h.read a hs

theorem Stable.readOperand (h : Stable P) {s : State} (o : Operand) (hs : P s) : P (readOperand o s).2 :=
  h.loadOperand o _ (h.addCycles _ (h.effAddr o hs))

theorem Stable.storeOperand (h : Stable P) {s : State} (k : EffAddr) (v : Byte) (hs : P s) : P (storeOperand k v s) := by
  unfold Machine.storeOperand
  split
  · exact h.store _ v hs
  · exact h.setA v hs

theorem Stable.writeOperand (h : Stable P) {s : State} (o : Operand) (v : Byte) (hs : P s) : P (writeOperand o v s) :=
  h.storeOperand _ v (h.effAddr o hs)

theorem Stable.modifyOperand (h : Stable P) {s : State} (f : Byte → Byte → Byte × Byte)
    (hf : ∀ m p, flagR p = true → flagR (f m p).2 = true) (o : Operand) (hs : P s) : P (modifyOperand f o s).2 :=
  h.storeOperand _ _ (h.setP _ (hf _ _) (h.loadOperand o _ (h.effAddr o hs)))

theorem Stable.jumpTarget (h : Stable P) {s : State} (o : Operand) (hs : P s) : P (jumpTarget o s) := by
  unfold Machine.jumpTarget
  dsimp only
  split
  · exact h.setPc _ (h.effAddr o hs)
  · exact h.effAddr o hs

theorem Stable.branchIf (h : Stable P) {s : State} (b : Bool) (d : Byte) (hs : P s) : P (branchIf b d s) := by
  unfold Machine.branchIf
  split
  · exact h.jumpTarget _ (h.addCycles _ hs)
  · exact hs

theorem setNZ_flagR {v p : Byte} (h : flagR p = true) : flagR (setNZ v p) = true := by
  rw [flagR, setNZ_getLsbD]; exact h

theorem putBit_flagR {p : Byte} {i : Nat} (hi : i < 8) (h5 : i ≠ 5) (b : Bool) (h : flagR p = true) :
    flagR (putBit p i b) = true := by
  rw [flagR, putBit_getLsbD p hi, if_neg (Ne.symm h5)]; exact h

theorem adcFlags_flagR {a m p : Byte} (h : flagR p = true) : flagR (adcFlags a m p) = true := by
  rw [flagR, adcFlags_getLsbD]; exact setNZ_flagR h

theorem sbcFlags_flagR {a m p : Byte} (h : flagR p = true) : flagR (sbcFlags a m p) = true := by
  rw [flagR, sbcFlags_getLsbD]; exact setNZ_flagR h

theorem compareFlags_flagR {a m p : Byte} (h : flagR p = true) : flagR (compareFlags a m p) = true := by
  rw [flagR, compareFlags_getLsbD]; exact setNZ_flagR h

theorem bitFlags_flagR {a m p : Byte} (h : flagR p = true) : flagR (bitFlags a m p) = true := by
  rw [flagR, bitFlags_getLsbD]; exact h

theorem Stable.setNZ (h : Stable P) {s : State} (v : Byte) (hs : P s) : P (s.setP (setNZ v s.p)) :=
  h.setP _ setNZ_flagR hs

theorem Stable.addToA (h : Stable P) {s : State} (m : Byte) (hs : P s) : P (addToA m s) :=
  h.setP _ adcFlags_flagR (h.setA _ hs)

theorem Stable.subFromA (h : Stable P) {s : State} (m : Byte) (hs : P s) : P (subFromA m s) :=
  h.setP _ sbcFlags_flagR (h.setA _ hs)

theorem Stable.logicToA (h : Stable P) {s : State} (v : Byte) (hs : P s) : P (logicToA v s) :=
  h.setP _ setNZ_flagR (h.setA _ hs)

theorem Stable.modifyNZ (h : Stable P) {s : State} (f : Byte → Byte → Byte × Byte)
    (hf : ∀ m p, flagR p = true → flagR (f m p).2 = true) (o : Operand) (hs : P s) : P (modifyNZ f o s) :=
  h.setNZ _ (h.modifyOperand f hf o hs)

theorem Stable.readAndDiscard (h : Stable P) {s : State} (o : Operand) (hs : P s) : P (readAndDiscard o s) := by
  unfold Machine.readAndDiscard
  dsimp only
  split
  · split
    · exact h.read _ (h.addCycles _ (h.effAddr o hs))
    · exact h.addCycles _ (h.effAddr o hs)
  · exact h.addCycles _ (h.effAddr o hs)

theorem shiftLeft_flagR (m p : Byte) (h : flagR p = true) : flagR (shiftLeft m p).2 = true :=
  putBit_flagR (by omega) (by omega) _ h

theorem shiftRight_flagR (m p : Byte) (h : flagR p = true) : flagR (shiftRight m p).2 = true :=
  putBit_flagR (by omega) (by omega) _ h

theorem rotateLeft_flagR (m p : Byte) (h : flagR p = true) : flagR (rotateLeft m p).2 = true :=
  putBit_flagR (by omega) (by omega) _ h

theorem rotateRight_flagR (m p : Byte) (h : flagR p = true) : flagR (rotateRight m p).2 = true :=
  putBit_flagR (by omega) (by omega) _ h

/-- What every meaning keeps. -/
theorem Stable.meaning (h : Stable P) {s : State} (m : Mnemonic) (o : Operand) (op : Byte) (hs : P s) :
    P (meaning m o op s) := by
  have fl : ∀ {t : State} {i : Nat} (b : Bool), i < 8 → i ≠ 5 → P t → P (t.setP (putBit t.p i b)) :=
    fun b hi h5 ht => h.setP _ (putBit_flagR hi h5 b) ht
  have br : ∀ (f : Byte → State → State), (∀ d, P (f d s)) →
      P (match o with | .rel d => f d s | _ => s) := by
    intro f hf
    cases o <;> first | exact hs | exact hf _
  have ro := h.readOperand o hs
  cases m
  case brk => change P (opBrk s); unfold opBrk; exact h.enterVector _ _ _ (h.setPc _ hs)
  case ora => change P (opOra o s); unfold opOra; exact h.logicToA _ ro
  case unl => change P (opUnl op s); unfold opUnl; exact h.setPc _ hs
  case slo => change P (opSlo o s); unfold opSlo; exact h.logicToA _ (h.modifyOperand _ shiftLeft_flagR o hs)
  case dop => change P (opDop o s); unfold opDop; exact h.readAndDiscard o hs
  case asl => change P (opAsl o s); unfold opAsl; exact h.modifyNZ _ shiftLeft_flagR o hs
  case php => change P (opPhp s); unfold opPhp; exact h.push _ hs
  case top => change P (opTop o s); unfold opTop; exact h.readAndDiscard o hs
  case bpl => exact br opBpl (fun d => by unfold opBpl; exact h.branchIf _ d hs)
  case clc => change P (opClc s); unfold opClc; exact fl _ (by omega) (by omega) hs
  case nop1 => change P (opNop1 s); unfold opNop1; exact hs
  case jsr => change P (opJsr o s); unfold opJsr; exact h.jumpTarget o (h.pushWord _ _ hs)
  case and => change P (opAnd o s); unfold opAnd; exact h.logicToA _ ro
  case rla => change P (opRla o s); unfold opRla; exact h.logicToA _ (h.modifyOperand _ rotateLeft_flagR o hs)
  case bit => change P (opBit o s); unfold opBit; exact h.setP _ bitFlags_flagR ro
  case rol => change P (opRol o s); unfold opRol; exact h.modifyNZ _ rotateLeft_flagR o hs
  case plp => change P (opPlp s); unfold opPlp; exact h.setP _ (fun _ => pulledStatus_flagR _) (h.pop hs)
  case bmi => exact br opBmi (fun d => by unfold opBmi; exact h.branchIf _ d hs)
  case sec => change P (opSec s); unfold opSec; exact fl _ (by omega) (by omega) hs
  case rti => change P (opRti s); unfold opRti; exact h.returnFromVector hs
  case eor => change P (opEor o s); unfold opEor; exact h.logicToA _ ro
  case sre => change P (opSre o s); unfold opSre; exact h.logicToA _ (h.modifyOperand _ shiftRight_flagR o hs)
  case lsr => change P (opLsr o s); unfold opLsr; exact h.modifyNZ _ shiftRight_flagR o hs
  case pha => change P (opPha s); unfold opPha; exact h.push _ hs
  case jmp => change P (opJmp o s); unfold opJmp; exact h.jumpTarget o hs
  case bvc => exact br opBvc (fun d => by unfold opBvc; exact h.branchIf _ d hs)
  case cli => change P (opCli s); unfold opCli; exact fl _ (by omega) (by omega) hs
  case rts => change P (opRts s); unfold opRts; exact h.setPc _ (h.popWord hs)
  case adc => change P (opAdc o s); unfold opAdc; exact h.addToA _ ro
  case rra => change P (opRra o s); unfold opRra; exact h.addToA _ (h.modifyOperand _ rotateRight_flagR o hs)
  case ror => change P (opRor o s); unfold opRor; exact h.modifyNZ _ rotateRight_flagR o hs
  case pla => change P (opPla s); unfold opPla; exact h.setP _ setNZ_flagR (h.setA _ (h.pop hs))
  case bvs => exact br opBvs (fun d => by unfold opBvs; exact h.branchIf _ d hs)
  case sei => change P (opSei s); unfold opSei; exact fl _ (by omega) (by omega) hs
  case sta => change P (opSta o s); unfold opSta; exact h.writeOperand o _ hs
  case sax => change P (opSax o s); unfold opSax; exact h.writeOperand o _ hs
  case sty => change P (opSty o s); unfold opSty; exact h.writeOperand o _ hs
  case stx => change P (opStx o s); unfold opStx; exact h.writeOperand o _ hs
  case dey => change P (opDey s); unfold opDey; exact h.setP _ setNZ_flagR (h.setY _ hs)
  case txa => change P (opTxa s); unfold opTxa; exact h.setP _ setNZ_flagR (h.setA _ hs)
  case bcc => exact br opBcc (fun d => by unfold opBcc; exact h.branchIf _ d hs)
  case tya => change P (opTya s); unfold opTya; exact h.setP _ setNZ_flagR (h.setA _ hs)
  case txs => change P (opTxs s); unfold opTxs; exact h.setSp _ hs
  case ldy => change P (opLdy o s); unfold opLdy; exact h.setP _ setNZ_flagR (h.setY _ ro)
  case lda => change P (opLda o s); unfold opLda; exact h.setP _ setNZ_flagR (h.setA _ ro)
  case ldx => change P (opLdx o s); unfold opLdx; exact h.setP _ setNZ_flagR (h.setX _ ro)
  case lax => change P (opLax o s); unfold opLax; exact h.setP _ setNZ_flagR (h.setX _ (h.setA _ ro))
  case tay => change P (opTay s); unfold opTay; exact h.setP _ setNZ_flagR (h.setY _ hs)
  case tax => change P (opTax s); unfold opTax; exact h.setP _ setNZ_flagR (h.setX _ hs)
  case bcs => exact br opBcs (fun d => by unfold opBcs; exact h.branchIf _ d hs)
  case clv => change P (opClv s); unfold opClv; exact fl _ (by omega) (by omega) hs
  case tsx => change P (opTsx s); unfold opTsx; exact h.setP _ setNZ_flagR (h.setX _ hs)
  case cpy => change P (opCpy o s); unfold opCpy; exact h.setP _ compareFlags_flagR ro
  case cmp => change P (opCmp o s); unfold opCmp; exact h.setP _ compareFlags_flagR ro
  case dcp => change P (opDcp o s); unfold opDcp; exact h.setP _ compareFlags_flagR (h.modifyOperand decrement (fun _ _ hp => hp) o hs)
  case dec => change P (opDec o s); unfold opDec; exact h.modifyNZ decrement (fun _ _ hp => hp) o hs
  case iny => change P (opIny s); unfold opIny; exact h.setP _ setNZ_flagR (h.setY _ hs)
  case dex => change P (opDex s); unfold opDex; exact h.setP _ setNZ_flagR (h.setX _ hs)
  case bne => exact br opBne (fun d => by unfold opBne; exact h.branchIf _ d hs)
  case cld => change P (opCld s); unfold opCld; exact fl _ (by omega) (by omega) hs
  case cpx => change P (opCpx o s); unfold opCpx; exact h.setP _ compareFlags_flagR ro
  case sbc => change P (opSbc o s); unfold opSbc; exact h.subFromA _ ro
  case isc => change P (opIsc o s); unfold opIsc; exact h.subFromA _ (h.modifyOperand increment (fun _ _ hp => hp) o hs)
  case inc => change P (opInc o s); unfold opInc; exact h.modifyNZ increment (fun _ _ hp => hp) o hs
  case inx => change P (opInx s); unfold opInx; exact h.setP _ setNZ_flagR (h.setX _ hs)
  case nop => change P (opNop s); unfold opNop; exact hs
  case usbc => change P (opUsbc o s); unfold opUsbc; exact h.subFromA _ ro
  case beq => exact br opBeq (fun d => by unfold opBeq; exact h.branchIf _ d hs)
  case sed => change P (opSed s); unfold opSed; exact fl _ (by omega) (by omega) hs

/-- What every instruction keeps. -/
theorem exec_stable (h : Stable P) {i : Instr} {s t : State} (hs : P s) (he : exec i s = .next t) : P t := by
  rw [exec_eq] at he
  cases he
  exact h.meaning _ _ _ (h.setCycles _ hs)

/-- What fetching an instruction keeps. -/
theorem fetchBytes_stable (h : Stable P) (n : Nat) {s : State} (hs : P s) : P (fetchBytes n s).2 := by
  induction n generalizing s with
  | zero => exact hs
  | succ n ih => exact ih (h.setPc _ (h.read _ hs))

/-- What fetching an instruction keeps. -/
theorem fetchInstr_stable (h : Stable P) {s : State} (hs : P s) : P (fetchInstr s).2 :=
  fetchBytes_stable h _ (h.setPc _ (h.read _ hs))

/-- Everything a step is: the state that its CPU part reaches, an interrupt service or a fetch and an instruction, and the PPU's
dots (R100, R160). -/
theorem step_eq (s : State) :
    step s = .next (catchUp (match servicePending s with
      | (true, t) => t
      | (false, t) => meaning (fetchInstr t).1.mnemonic (fetchInstr t).1.operand (fetchInstr t).1.opcode
          ((fetchInstr t).2.credit (fetchInstr t).1.opcode))) := by
  unfold step
  cases hq : servicePending s with
  | mk b t =>
    cases b
    · simp only [exec_eq]; rfl
    · rfl

/-- What a service, or a masked IRQ's change of the latch, keeps. -/
theorem servicePending_stable (h : Stable P) (hq : ∀ {s : State} q, P s → P (s.setPending q)) {s : State} (hs : P s) :
    P (servicePending s).2 := by
  unfold servicePending
  split
  · exact hs
  · exact hq _ (h.setCycles _ (h.setPc _ (h.read16 _ _ (h.setP _ (fun _ => by decide) (h.setSp _ (h.setY _ (h.setX _ (h.setA _ hs))))))))
  · exact hq _ (h.setCycles _ (h.setP _ (putBit_flagR (by omega) (by omega) _) (h.enterVector _ _ _ hs)))
  · split
    · exact hq _ hs
    · exact hq _ (h.setCycles _ (h.setP _
        (fun hp => putBit_flagR (by omega) (by omega) _ (putBit_flagR (by omega) (by omega) _ hp)) (h.enterVector _ _ _ hs)))

/-- What every step keeps: a property stable under the CPU's operations and the change of the latch, and kept by a dot. -/
theorem step_stable (h : Stable P) (hq : ∀ {s : State} q, P s → P (s.setPending q)) (hd : ∀ {s : State}, P s → P (executeDot s))
    {s t : State} (hs : P s) (he : step s = .next t) : P t := by
  have dots : ∀ n (u : State), P u → P (executeCycles n u) := by
    intro n
    induction n with
    | zero => exact fun u hu => hu
    | succ n ih => exact fun u hu => ih _ (hd hu)
  rw [step_eq] at he
  cases he
  apply dots
  have hs' := servicePending_stable h hq hs
  split <;> rename_i heq <;> rw [heq] at hs'
  · exact hs'
  · exact h.meaning _ _ _ (h.setCycles _ (fetchInstr_stable h hs'))

end Sys2Proof.Machine
end

