-- ==== Sys2Proof/Laws/PerInstr.lean ====
section
/-! SUPPORT. Laws/PerInstr.lean: for every constructor of `Instr`, that its opcode and operand bytes fit the opcode matrix. -/

namespace Sys2Proof.Laws.Decodes

open Sys2Proof Sys2Proof.Machine

/-- The opcode takes as many operand bytes as the instruction has, and the matrix gives the instruction back from its opcode and
those bytes (R120 to R123). -/
def Statement (i : Instr) : Prop :=
  i.operand.bytes.length = operandCount i.opcode ∧
    decodeOpcode i.opcode (i.operand.bytes.getD 0 0) (i.operand.bytes.getD 1 0) = i

/-- The statement from its parts at the opcode's value. -/
theorem fits (op b1 b2 : Byte) (i : Instr) (ho : i.opcode = op)
    (hb : (i.operand.bytes.getD 0 0, i.operand.bytes.getD 1 0, i.operand.bytes.length) = (b1, b2, operandCount op))
    (hd : decodeOpcode op b1 b2 = i) : Statement i := by
  subst ho
  simp only [Prod.mk.injEq] at hb
  refine ⟨hb.2.2, ?_⟩
  rw [hb.1, hb.2.1]
  exact hd


theorem brk : Statement .brk := fits 0x00 0 0 _ rfl rfl rfl
theorem oraIndx (v : Byte) : Statement (.oraIndx v) := fits 0x01 v 0 _ rfl rfl rfl
theorem unl02 : Statement .unl02 := fits 0x02 0 0 _ rfl rfl rfl
theorem sloIndx (v : Byte) : Statement (.sloIndx v) := fits 0x03 v 0 _ rfl rfl rfl
theorem dop04 (v : Byte) : Statement (.dop04 v) := fits 0x04 v 0 _ rfl rfl rfl
theorem oraZp (v : Byte) : Statement (.oraZp v) := fits 0x05 v 0 _ rfl rfl rfl
theorem aslZp (v : Byte) : Statement (.aslZp v) := fits 0x06 v 0 _ rfl rfl rfl
theorem sloZp (v : Byte) : Statement (.sloZp v) := fits 0x07 v 0 _ rfl rfl rfl
theorem php : Statement .php := fits 0x08 0 0 _ rfl rfl rfl
theorem oraImm (v : Byte) : Statement (.oraImm v) := fits 0x09 v 0 _ rfl rfl rfl
theorem aslAcc : Statement .aslAcc := fits 0x0A 0 0 _ rfl rfl rfl
theorem unl0B : Statement .unl0B := fits 0x0B 0 0 _ rfl rfl rfl
theorem top0C (a : Addr) : Statement (.top0C a) :=
  fits 0x0C (loByte a) (hiByte a) _ rfl rfl (congrArg Instr.top0C (word16_hi_lo a))
theorem oraAbs (a : Addr) : Statement (.oraAbs a) :=
  fits 0x0D (loByte a) (hiByte a) _ rfl rfl (congrArg Instr.oraAbs (word16_hi_lo a))
theorem aslAbs (a : Addr) : Statement (.aslAbs a) :=
  fits 0x0E (loByte a) (hiByte a) _ rfl rfl (congrArg Instr.aslAbs (word16_hi_lo a))
theorem sloAbs (a : Addr) : Statement (.sloAbs a) :=
  fits 0x0F (loByte a) (hiByte a) _ rfl rfl (congrArg Instr.sloAbs (word16_hi_lo a))
theorem bpl (v : Byte) : Statement (.bpl v) := fits 0x10 v 0 _ rfl rfl rfl
theorem oraIndy (v : Byte) : Statement (.oraIndy v) := fits 0x11 v 0 _ rfl rfl rfl
theorem unl12 : Statement .unl12 := fits 0x12 0 0 _ rfl rfl rfl
theorem sloIndy (v : Byte) : Statement (.sloIndy v) := fits 0x13 v 0 _ rfl rfl rfl
theorem dop14 (v : Byte) : Statement (.dop14 v) := fits 0x14 v 0 _ rfl rfl rfl
theorem oraZpx (v : Byte) : Statement (.oraZpx v) := fits 0x15 v 0 _ rfl rfl rfl
theorem aslZpx (v : Byte) : Statement (.aslZpx v) := fits 0x16 v 0 _ rfl rfl rfl
theorem sloZpx (v : Byte) : Statement (.sloZpx v) := fits 0x17 v 0 _ rfl rfl rfl
theorem clc : Statement .clc := fits 0x18 0 0 _ rfl rfl rfl
theorem oraAbsy (a : Addr) : Statement (.oraAbsy a) :=
  fits 0x19 (loByte a) (hiByte a) _ rfl rfl (congrArg Instr.oraAbsy (word16_hi_lo a))
theorem nop1x1A : Statement .nop1x1A := fits 0x1A 0 0 _ rfl rfl rfl
theorem sloAbsy (a : Addr) : Statement (.sloAbsy a) :=
  fits 0x1B (loByte a) (hiByte a) _ rfl rfl (congrArg Instr.sloAbsy (word16_hi_lo a))
theorem top1C (a : Addr) : Statement (.top1C a) :=
  fits 0x1C (loByte a) (hiByte a) _ rfl rfl (congrArg Instr.top1C (word16_hi_lo a))
theorem oraAbsx (a : Addr) : Statement (.oraAbsx a) :=
  fits 0x1D (loByte a) (hiByte a) _ rfl rfl (congrArg Instr.oraAbsx (word16_hi_lo a))
theorem aslAbsx (a : Addr) : Statement (.aslAbsx a) :=
  fits 0x1E (loByte a) (hiByte a) _ rfl rfl (congrArg Instr.aslAbsx (word16_hi_lo a))
theorem sloAbsx (a : Addr) : Statement (.sloAbsx a) :=
  fits 0x1F (loByte a) (hiByte a) _ rfl rfl (congrArg Instr.sloAbsx (word16_hi_lo a))
theorem jsr (a : Addr) : Statement (.jsr a) :=
  fits 0x20 (loByte a) (hiByte a) _ rfl rfl (congrArg Instr.jsr (word16_hi_lo a))
theorem andIndx (v : Byte) : Statement (.andIndx v) := fits 0x21 v 0 _ rfl rfl rfl
theorem unl22 : Statement .unl22 := fits 0x22 0 0 _ rfl rfl rfl
theorem rlaIndx (v : Byte) : Statement (.rlaIndx v) := fits 0x23 v 0 _ rfl rfl rfl
theorem bitZp (v : Byte) : Statement (.bitZp v) := fits 0x24 v 0 _ rfl rfl rfl
theorem andZp (v : Byte) : Statement (.andZp v) := fits 0x25 v 0 _ rfl rfl rfl
theorem rolZp (v : Byte) : Statement (.rolZp v) := fits 0x26 v 0 _ rfl rfl rfl
theorem rlaZp (v : Byte) : Statement (.rlaZp v) := fits 0x27 v 0 _ rfl rfl rfl
theorem plp : Statement .plp := fits 0x28 0 0 _ rfl rfl rfl
theorem andImm (v : Byte) : Statement (.andImm v) := fits 0x29 v 0 _ rfl rfl rfl
theorem rolAcc : Statement .rolAcc := fits 0x2A 0 0 _ rfl rfl rfl
theorem unl2B : Statement .unl2B := fits 0x2B 0 0 _ rfl rfl rfl
theorem bitAbs (a : Addr) : Statement (.bitAbs a) :=
  fits 0x2C (loByte a) (hiByte a) _ rfl rfl (congrArg Instr.bitAbs (word16_hi_lo a))
theorem andAbs (a : Addr) : Statement (.andAbs a) :=
  fits 0x2D (loByte a) (hiByte a) _ rfl rfl (congrArg Instr.andAbs (word16_hi_lo a))
theorem rolAbs (a : Addr) : Statement (.rolAbs a) :=
  fits 0x2E (loByte a) (hiByte a) _ rfl rfl (congrArg Instr.rolAbs (word16_hi_lo a))
theorem rlaAbs (a : Addr) : Statement (.rlaAbs a) :=
  fits 0x2F (loByte a) (hiByte a) _ rfl rfl (congrArg Instr.rlaAbs (word16_hi_lo a))
theorem bmi (v : Byte) : Statement (.bmi v) := fits 0x30 v 0 _ rfl rfl rfl
theorem andIndy (v : Byte) : Statement (.andIndy v) := fits 0x31 v 0 _ rfl rfl rfl
theorem unl32 : Statement .unl32 := fits 0x32 0 0 _ rfl rfl rfl
theorem rlaIndy (v : Byte) : Statement (.rlaIndy v) := fits 0x33 v 0 _ rfl rfl rfl
theorem dop34 (v : Byte) : Statement (.dop34 v) := fits 0x34 v 0 _ rfl rfl rfl
theorem andZpx (v : Byte) : Statement (.andZpx v) := fits 0x35 v 0 _ rfl rfl rfl
theorem rolZpx (v : Byte) : Statement (.rolZpx v) := fits 0x36 v 0 _ rfl rfl rfl
theorem rlaZpx (v : Byte) : Statement (.rlaZpx v) := fits 0x37 v 0 _ rfl rfl rfl
theorem sec : Statement .sec := fits 0x38 0 0 _ rfl rfl rfl
theorem andAbsy (a : Addr) : Statement (.andAbsy a) :=
  fits 0x39 (loByte a) (hiByte a) _ rfl rfl (congrArg Instr.andAbsy (word16_hi_lo a))
theorem nop1x3A : Statement .nop1x3A := fits 0x3A 0 0 _ rfl rfl rfl
theorem rlaAbsy (a : Addr) : Statement (.rlaAbsy a) :=
  fits 0x3B (loByte a) (hiByte a) _ rfl rfl (congrArg Instr.rlaAbsy (word16_hi_lo a))
theorem top3C (a : Addr) : Statement (.top3C a) :=
  fits 0x3C (loByte a) (hiByte a) _ rfl rfl (congrArg Instr.top3C (word16_hi_lo a))
theorem andAbsx (a : Addr) : Statement (.andAbsx a) :=
  fits 0x3D (loByte a) (hiByte a) _ rfl rfl (congrArg Instr.andAbsx (word16_hi_lo a))
theorem rolAbsx (a : Addr) : Statement (.rolAbsx a) :=
  fits 0x3E (loByte a) (hiByte a) _ rfl rfl (congrArg Instr.rolAbsx (word16_hi_lo a))
theorem rlaAbsx (a : Addr) : Statement (.rlaAbsx a) :=
  fits 0x3F (loByte a) (hiByte a) _ rfl rfl (congrArg Instr.rlaAbsx (word16_hi_lo a))
theorem rti : Statement .rti := fits 0x40 0 0 _ rfl rfl rfl
theorem eorIndx (v : Byte) : Statement (.eorIndx v) := fits 0x41 v 0 _ rfl rfl rfl
theorem unl42 : Statement .unl42 := fits 0x42 0 0 _ rfl rfl rfl
theorem sreIndx (v : Byte) : Statement (.sreIndx v) := fits 0x43 v 0 _ rfl rfl rfl
theorem dop44 (v : Byte) : Statement (.dop44 v) := fits 0x44 v 0 _ rfl rfl rfl
theorem eorZp (v : Byte) : Statement (.eorZp v) := fits 0x45 v 0 _ rfl rfl rfl
theorem lsrZp (v : Byte) : Statement (.lsrZp v) := fits 0x46 v 0 _ rfl rfl rfl
theorem sreZp (v : Byte) : Statement (.sreZp v) := fits 0x47 v 0 _ rfl rfl rfl
theorem pha : Statement .pha := fits 0x48 0 0 _ rfl rfl rfl
theorem eorImm (v : Byte) : Statement (.eorImm v) := fits 0x49 v 0 _ rfl rfl rfl
theorem lsrAcc : Statement .lsrAcc := fits 0x4A 0 0 _ rfl rfl rfl
theorem unl4B : Statement .unl4B := fits 0x4B 0 0 _ rfl rfl rfl
theorem jmpAbs (a : Addr) : Statement (.jmpAbs a) :=
  fits 0x4C (loByte a) (hiByte a) _ rfl rfl (congrArg Instr.jmpAbs (word16_hi_lo a))
theorem eorAbs (a : Addr) : Statement (.eorAbs a) :=
  fits 0x4D (loByte a) (hiByte a) _ rfl rfl (congrArg Instr.eorAbs (word16_hi_lo a))
theorem lsrAbs (a : Addr) : Statement (.lsrAbs a) :=
  fits 0x4E (loByte a) (hiByte a) _ rfl rfl (congrArg Instr.lsrAbs (word16_hi_lo a))
theorem sreAbs (a : Addr) : Statement (.sreAbs a) :=
  fits 0x4F (loByte a) (hiByte a) _ rfl rfl (congrArg Instr.sreAbs (word16_hi_lo a))
theorem bvc (v : Byte) : Statement (.bvc v) := fits 0x50 v 0 _ rfl rfl rfl
theorem eorIndy (v : Byte) : Statement (.eorIndy v) := fits 0x51 v 0 _ rfl rfl rfl
theorem unl52 : Statement .unl52 := fits 0x52 0 0 _ rfl rfl rfl
theorem sreIndy (v : Byte) : Statement (.sreIndy v) := fits 0x53 v 0 _ rfl rfl rfl
theorem dop54 (v : Byte) : Statement (.dop54 v) := fits 0x54 v 0 _ rfl rfl rfl
theorem eorZpx (v : Byte) : Statement (.eorZpx v) := fits 0x55 v 0 _ rfl rfl rfl
theorem lsrZpx (v : Byte) : Statement (.lsrZpx v) := fits 0x56 v 0 _ rfl rfl rfl
theorem sreZpx (v : Byte) : Statement (.sreZpx v) := fits 0x57 v 0 _ rfl rfl rfl
theorem cli : Statement .cli := fits 0x58 0 0 _ rfl rfl rfl
theorem eorAbsy (a : Addr) : Statement (.eorAbsy a) :=
  fits 0x59 (loByte a) (hiByte a) _ rfl rfl (congrArg Instr.eorAbsy (word16_hi_lo a))
theorem nop1x5A : Statement .nop1x5A := fits 0x5A 0 0 _ rfl rfl rfl
theorem sreAbsy (a : Addr) : Statement (.sreAbsy a) :=
  fits 0x5B (loByte a) (hiByte a) _ rfl rfl (congrArg Instr.sreAbsy (word16_hi_lo a))
theorem top5C (a : Addr) : Statement (.top5C a) :=
  fits 0x5C (loByte a) (hiByte a) _ rfl rfl (congrArg Instr.top5C (word16_hi_lo a))
theorem eorAbsx (a : Addr) : Statement (.eorAbsx a) :=
  fits 0x5D (loByte a) (hiByte a) _ rfl rfl (congrArg Instr.eorAbsx (word16_hi_lo a))
theorem lsrAbsx (a : Addr) : Statement (.lsrAbsx a) :=
  fits 0x5E (loByte a) (hiByte a) _ rfl rfl (congrArg Instr.lsrAbsx (word16_hi_lo a))
theorem sreAbsx (a : Addr) : Statement (.sreAbsx a) :=
  fits 0x5F (loByte a) (hiByte a) _ rfl rfl (congrArg Instr.sreAbsx (word16_hi_lo a))
theorem rts : Statement .rts := fits 0x60 0 0 _ rfl rfl rfl
theorem adcIndx (v : Byte) : Statement (.adcIndx v) := fits 0x61 v 0 _ rfl rfl rfl
theorem unl62 : Statement .unl62 := fits 0x62 0 0 _ rfl rfl rfl
theorem rraIndx (v : Byte) : Statement (.rraIndx v) := fits 0x63 v 0 _ rfl rfl rfl
theorem dop64 (v : Byte) : Statement (.dop64 v) := fits 0x64 v 0 _ rfl rfl rfl
theorem adcZp (v : Byte) : Statement (.adcZp v) := fits 0x65 v 0 _ rfl rfl rfl
theorem rorZp (v : Byte) : Statement (.rorZp v) := fits 0x66 v 0 _ rfl rfl rfl
theorem rraZp (v : Byte) : Statement (.rraZp v) := fits 0x67 v 0 _ rfl rfl rfl
theorem pla : Statement .pla := fits 0x68 0 0 _ rfl rfl rfl
theorem adcImm (v : Byte) : Statement (.adcImm v) := fits 0x69 v 0 _ rfl rfl rfl
theorem rorAcc : Statement .rorAcc := fits 0x6A 0 0 _ rfl rfl rfl
theorem unl6B : Statement .unl6B := fits 0x6B 0 0 _ rfl rfl rfl
theorem jmpInd (a : Addr) : Statement (.jmpInd a) :=
  fits 0x6C (loByte a) (hiByte a) _ rfl rfl (congrArg Instr.jmpInd (word16_hi_lo a))
theorem adcAbs (a : Addr) : Statement (.adcAbs a) :=
  fits 0x6D (loByte a) (hiByte a) _ rfl rfl (congrArg Instr.adcAbs (word16_hi_lo a))
theorem rorAbs (a : Addr) : Statement (.rorAbs a) :=
  fits 0x6E (loByte a) (hiByte a) _ rfl rfl (congrArg Instr.rorAbs (word16_hi_lo a))
theorem rraAbs (a : Addr) : Statement (.rraAbs a) :=
  fits 0x6F (loByte a) (hiByte a) _ rfl rfl (congrArg Instr.rraAbs (word16_hi_lo a))
theorem bvs (v : Byte) : Statement (.bvs v) := fits 0x70 v 0 _ rfl rfl rfl
theorem adcIndy (v : Byte) : Statement (.adcIndy v) := fits 0x71 v 0 _ rfl rfl rfl
theorem unl72 : Statement .unl72 := fits 0x72 0 0 _ rfl rfl rfl
theorem rraIndy (v : Byte) : Statement (.rraIndy v) := fits 0x73 v 0 _ rfl rfl rfl
theorem dop74 (v : Byte) : Statement (.dop74 v) := fits 0x74 v 0 _ rfl rfl rfl
theorem adcZpx (v : Byte) : Statement (.adcZpx v) := fits 0x75 v 0 _ rfl rfl rfl
theorem rorZpx (v : Byte) : Statement (.rorZpx v) := fits 0x76 v 0 _ rfl rfl rfl
theorem rraZpx (v : Byte) : Statement (.rraZpx v) := fits 0x77 v 0 _ rfl rfl rfl
theorem sei : Statement .sei := fits 0x78 0 0 _ rfl rfl rfl
theorem adcAbsy (a : Addr) : Statement (.adcAbsy a) :=
  fits 0x79 (loByte a) (hiByte a) _ rfl rfl (congrArg Instr.adcAbsy (word16_hi_lo a))
theorem nop1x7A : Statement .nop1x7A := fits 0x7A 0 0 _ rfl rfl rfl
theorem rraAbsy (a : Addr) : Statement (.rraAbsy a) :=
  fits 0x7B (loByte a) (hiByte a) _ rfl rfl (congrArg Instr.rraAbsy (word16_hi_lo a))
theorem top7C (a : Addr) : Statement (.top7C a) :=
  fits 0x7C (loByte a) (hiByte a) _ rfl rfl (congrArg Instr.top7C (word16_hi_lo a))
theorem adcAbsx (a : Addr) : Statement (.adcAbsx a) :=
  fits 0x7D (loByte a) (hiByte a) _ rfl rfl (congrArg Instr.adcAbsx (word16_hi_lo a))
theorem rorAbsx (a : Addr) : Statement (.rorAbsx a) :=
  fits 0x7E (loByte a) (hiByte a) _ rfl rfl (congrArg Instr.rorAbsx (word16_hi_lo a))
theorem rraAbsx (a : Addr) : Statement (.rraAbsx a) :=
  fits 0x7F (loByte a) (hiByte a) _ rfl rfl (congrArg Instr.rraAbsx (word16_hi_lo a))
theorem dop80 (v : Byte) : Statement (.dop80 v) := fits 0x80 v 0 _ rfl rfl rfl
theorem staIndx (v : Byte) : Statement (.staIndx v) := fits 0x81 v 0 _ rfl rfl rfl
theorem dop82 (v : Byte) : Statement (.dop82 v) := fits 0x82 v 0 _ rfl rfl rfl
theorem saxIndx (v : Byte) : Statement (.saxIndx v) := fits 0x83 v 0 _ rfl rfl rfl
theorem styZp (v : Byte) : Statement (.styZp v) := fits 0x84 v 0 _ rfl rfl rfl
theorem staZp (v : Byte) : Statement (.staZp v) := fits 0x85 v 0 _ rfl rfl rfl
theorem stxZp (v : Byte) : Statement (.stxZp v) := fits 0x86 v 0 _ rfl rfl rfl
theorem saxZp (v : Byte) : Statement (.saxZp v) := fits 0x87 v 0 _ rfl rfl rfl
theorem dey : Statement .dey := fits 0x88 0 0 _ rfl rfl rfl
theorem dop89 (v : Byte) : Statement (.dop89 v) := fits 0x89 v 0 _ rfl rfl rfl
theorem txa : Statement .txa := fits 0x8A 0 0 _ rfl rfl rfl
theorem unl8B : Statement .unl8B := fits 0x8B 0 0 _ rfl rfl rfl
theorem styAbs (a : Addr) : Statement (.styAbs a) :=
  fits 0x8C (loByte a) (hiByte a) _ rfl rfl (congrArg Instr.styAbs (word16_hi_lo a))
theorem staAbs (a : Addr) : Statement (.staAbs a) :=
  fits 0x8D (loByte a) (hiByte a) _ rfl rfl (congrArg Instr.staAbs (word16_hi_lo a))
theorem stxAbs (a : Addr) : Statement (.stxAbs a) :=
  fits 0x8E (loByte a) (hiByte a) _ rfl rfl (congrArg Instr.stxAbs (word16_hi_lo a))
theorem saxAbs (a : Addr) : Statement (.saxAbs a) :=
  fits 0x8F (loByte a) (hiByte a) _ rfl rfl (congrArg Instr.saxAbs (word16_hi_lo a))
theorem bcc (v : Byte) : Statement (.bcc v) := fits 0x90 v 0 _ rfl rfl rfl
theorem staIndy (v : Byte) : Statement (.staIndy v) := fits 0x91 v 0 _ rfl rfl rfl
theorem unl92 : Statement .unl92 := fits 0x92 0 0 _ rfl rfl rfl
theorem unl93 : Statement .unl93 := fits 0x93 0 0 _ rfl rfl rfl
theorem styZpx (v : Byte) : Statement (.styZpx v) := fits 0x94 v 0 _ rfl rfl rfl
theorem staZpx (v : Byte) : Statement (.staZpx v) := fits 0x95 v 0 _ rfl rfl rfl
theorem stxZpy (v : Byte) : Statement (.stxZpy v) := fits 0x96 v 0 _ rfl rfl rfl
theorem saxZpy (v : Byte) : Statement (.saxZpy v) := fits 0x97 v 0 _ rfl rfl rfl
theorem tya : Statement .tya := fits 0x98 0 0 _ rfl rfl rfl
theorem staAbsy (a : Addr) : Statement (.staAbsy a) :=
  fits 0x99 (loByte a) (hiByte a) _ rfl rfl (congrArg Instr.staAbsy (word16_hi_lo a))
theorem txs : Statement .txs := fits 0x9A 0 0 _ rfl rfl rfl
theorem unl9B : Statement .unl9B := fits 0x9B 0 0 _ rfl rfl rfl
theorem unl9C : Statement .unl9C := fits 0x9C 0 0 _ rfl rfl rfl
theorem staAbsx (a : Addr) : Statement (.staAbsx a) :=
  fits 0x9D (loByte a) (hiByte a) _ rfl rfl (congrArg Instr.staAbsx (word16_hi_lo a))
theorem unl9E : Statement .unl9E := fits 0x9E 0 0 _ rfl rfl rfl
theorem unl9F : Statement .unl9F := fits 0x9F 0 0 _ rfl rfl rfl
theorem ldyImm (v : Byte) : Statement (.ldyImm v) := fits 0xA0 v 0 _ rfl rfl rfl
theorem ldaIndx (v : Byte) : Statement (.ldaIndx v) := fits 0xA1 v 0 _ rfl rfl rfl
theorem ldxImm (v : Byte) : Statement (.ldxImm v) := fits 0xA2 v 0 _ rfl rfl rfl
theorem laxIndx (v : Byte) : Statement (.laxIndx v) := fits 0xA3 v 0 _ rfl rfl rfl
theorem ldyZp (v : Byte) : Statement (.ldyZp v) := fits 0xA4 v 0 _ rfl rfl rfl
theorem ldaZp (v : Byte) : Statement (.ldaZp v) := fits 0xA5 v 0 _ rfl rfl rfl
theorem ldxZp (v : Byte) : Statement (.ldxZp v) := fits 0xA6 v 0 _ rfl rfl rfl
theorem laxZp (v : Byte) : Statement (.laxZp v) := fits 0xA7 v 0 _ rfl rfl rfl
theorem tay : Statement .tay := fits 0xA8 0 0 _ rfl rfl rfl
theorem ldaImm (v : Byte) : Statement (.ldaImm v) := fits 0xA9 v 0 _ rfl rfl rfl
theorem tax : Statement .tax := fits 0xAA 0 0 _ rfl rfl rfl
theorem unlAB : Statement .unlAB := fits 0xAB 0 0 _ rfl rfl rfl
theorem ldyAbs (a : Addr) : Statement (.ldyAbs a) :=
  fits 0xAC (loByte a) (hiByte a) _ rfl rfl (congrArg Instr.ldyAbs (word16_hi_lo a))
theorem ldaAbs (a : Addr) : Statement (.ldaAbs a) :=
  fits 0xAD (loByte a) (hiByte a) _ rfl rfl (congrArg Instr.ldaAbs (word16_hi_lo a))
theorem ldxAbs (a : Addr) : Statement (.ldxAbs a) :=
  fits 0xAE (loByte a) (hiByte a) _ rfl rfl (congrArg Instr.ldxAbs (word16_hi_lo a))
theorem laxAbs (a : Addr) : Statement (.laxAbs a) :=
  fits 0xAF (loByte a) (hiByte a) _ rfl rfl (congrArg Instr.laxAbs (word16_hi_lo a))
theorem bcs (v : Byte) : Statement (.bcs v) := fits 0xB0 v 0 _ rfl rfl rfl
theorem ldaIndy (v : Byte) : Statement (.ldaIndy v) := fits 0xB1 v 0 _ rfl rfl rfl
theorem unlB2 : Statement .unlB2 := fits 0xB2 0 0 _ rfl rfl rfl
theorem laxIndy (v : Byte) : Statement (.laxIndy v) := fits 0xB3 v 0 _ rfl rfl rfl
theorem ldyZpx (v : Byte) : Statement (.ldyZpx v) := fits 0xB4 v 0 _ rfl rfl rfl
theorem ldaZpx (v : Byte) : Statement (.ldaZpx v) := fits 0xB5 v 0 _ rfl rfl rfl
theorem ldxZpy (v : Byte) : Statement (.ldxZpy v) := fits 0xB6 v 0 _ rfl rfl rfl
theorem laxZpy (v : Byte) : Statement (.laxZpy v) := fits 0xB7 v 0 _ rfl rfl rfl
theorem clv : Statement .clv := fits 0xB8 0 0 _ rfl rfl rfl
theorem ldaAbsy (a : Addr) : Statement (.ldaAbsy a) :=
  fits 0xB9 (loByte a) (hiByte a) _ rfl rfl (congrArg Instr.ldaAbsy (word16_hi_lo a))
theorem tsx : Statement .tsx := fits 0xBA 0 0 _ rfl rfl rfl
theorem unlBB : Statement .unlBB := fits 0xBB 0 0 _ rfl rfl rfl
theorem ldyAbsx (a : Addr) : Statement (.ldyAbsx a) :=
  fits 0xBC (loByte a) (hiByte a) _ rfl rfl (congrArg Instr.ldyAbsx (word16_hi_lo a))
theorem ldaAbsx (a : Addr) : Statement (.ldaAbsx a) :=
  fits 0xBD (loByte a) (hiByte a) _ rfl rfl (congrArg Instr.ldaAbsx (word16_hi_lo a))
theorem ldxAbsy (a : Addr) : Statement (.ldxAbsy a) :=
  fits 0xBE (loByte a) (hiByte a) _ rfl rfl (congrArg Instr.ldxAbsy (word16_hi_lo a))
theorem laxAbsy (a : Addr) : Statement (.laxAbsy a) :=
  fits 0xBF (loByte a) (hiByte a) _ rfl rfl (congrArg Instr.laxAbsy (word16_hi_lo a))
theorem cpyImm (v : Byte) : Statement (.cpyImm v) := fits 0xC0 v 0 _ rfl rfl rfl
theorem cmpIndx (v : Byte) : Statement (.cmpIndx v) := fits 0xC1 v 0 _ rfl rfl rfl
theorem dopC2 (v : Byte) : Statement (.dopC2 v) := fits 0xC2 v 0 _ rfl rfl rfl
theorem dcpIndx (v : Byte) : Statement (.dcpIndx v) := fits 0xC3 v 0 _ rfl rfl rfl
theorem cpyZp (v : Byte) : Statement (.cpyZp v) := fits 0xC4 v 0 _ rfl rfl rfl
theorem cmpZp (v : Byte) : Statement (.cmpZp v) := fits 0xC5 v 0 _ rfl rfl rfl
theorem decZp (v : Byte) : Statement (.decZp v) := fits 0xC6 v 0 _ rfl rfl rfl
theorem dcpZp (v : Byte) : Statement (.dcpZp v) := fits 0xC7 v 0 _ rfl rfl rfl
theorem iny : Statement .iny := fits 0xC8 0 0 _ rfl rfl rfl
theorem cmpImm (v : Byte) : Statement (.cmpImm v) := fits 0xC9 v 0 _ rfl rfl rfl
theorem dex : Statement .dex := fits 0xCA 0 0 _ rfl rfl rfl
theorem unlCB : Statement .unlCB := fits 0xCB 0 0 _ rfl rfl rfl
theorem cpyAbs (a : Addr) : Statement (.cpyAbs a) :=
  fits 0xCC (loByte a) (hiByte a) _ rfl rfl (congrArg Instr.cpyAbs (word16_hi_lo a))
theorem cmpAbs (a : Addr) : Statement (.cmpAbs a) :=
  fits 0xCD (loByte a) (hiByte a) _ rfl rfl (congrArg Instr.cmpAbs (word16_hi_lo a))
theorem decAbs (a : Addr) : Statement (.decAbs a) :=
  fits 0xCE (loByte a) (hiByte a) _ rfl rfl (congrArg Instr.decAbs (word16_hi_lo a))
theorem dcpAbs (a : Addr) : Statement (.dcpAbs a) :=
  fits 0xCF (loByte a) (hiByte a) _ rfl rfl (congrArg Instr.dcpAbs (word16_hi_lo a))
theorem bne (v : Byte) : Statement (.bne v) := fits 0xD0 v 0 _ rfl rfl rfl
theorem cmpIndy (v : Byte) : Statement (.cmpIndy v) := fits 0xD1 v 0 _ rfl rfl rfl
theorem unlD2 : Statement .unlD2 := fits 0xD2 0 0 _ rfl rfl rfl
theorem dcpIndy (v : Byte) : Statement (.dcpIndy v) := fits 0xD3 v 0 _ rfl rfl rfl
theorem dopD4 (v : Byte) : Statement (.dopD4 v) := fits 0xD4 v 0 _ rfl rfl rfl
theorem cmpZpx (v : Byte) : Statement (.cmpZpx v) := fits 0xD5 v 0 _ rfl rfl rfl
theorem decZpx (v : Byte) : Statement (.decZpx v) := fits 0xD6 v 0 _ rfl rfl rfl
theorem dcpZpx (v : Byte) : Statement (.dcpZpx v) := fits 0xD7 v 0 _ rfl rfl rfl
theorem cld : Statement .cld := fits 0xD8 0 0 _ rfl rfl rfl
theorem cmpAbsy (a : Addr) : Statement (.cmpAbsy a) :=
  fits 0xD9 (loByte a) (hiByte a) _ rfl rfl (congrArg Instr.cmpAbsy (word16_hi_lo a))
theorem nop1xDA : Statement .nop1xDA := fits 0xDA 0 0 _ rfl rfl rfl
theorem dcpAbsy (a : Addr) : Statement (.dcpAbsy a) :=
  fits 0xDB (loByte a) (hiByte a) _ rfl rfl (congrArg Instr.dcpAbsy (word16_hi_lo a))
theorem topDC (a : Addr) : Statement (.topDC a) :=
  fits 0xDC (loByte a) (hiByte a) _ rfl rfl (congrArg Instr.topDC (word16_hi_lo a))
theorem cmpAbsx (a : Addr) : Statement (.cmpAbsx a) :=
  fits 0xDD (loByte a) (hiByte a) _ rfl rfl (congrArg Instr.cmpAbsx (word16_hi_lo a))
theorem decAbsx (a : Addr) : Statement (.decAbsx a) :=
  fits 0xDE (loByte a) (hiByte a) _ rfl rfl (congrArg Instr.decAbsx (word16_hi_lo a))
theorem dcpAbsx (a : Addr) : Statement (.dcpAbsx a) :=
  fits 0xDF (loByte a) (hiByte a) _ rfl rfl (congrArg Instr.dcpAbsx (word16_hi_lo a))
theorem cpxImm (v : Byte) : Statement (.cpxImm v) := fits 0xE0 v 0 _ rfl rfl rfl
theorem sbcIndx (v : Byte) : Statement (.sbcIndx v) := fits 0xE1 v 0 _ rfl rfl rfl
theorem dopE2 (v : Byte) : Statement (.dopE2 v) := fits 0xE2 v 0 _ rfl rfl rfl
theorem iscIndx (v : Byte) : Statement (.iscIndx v) := fits 0xE3 v 0 _ rfl rfl rfl
theorem cpxZp (v : Byte) : Statement (.cpxZp v) := fits 0xE4 v 0 _ rfl rfl rfl
theorem sbcZp (v : Byte) : Statement (.sbcZp v) := fits 0xE5 v 0 _ rfl rfl rfl
theorem incZp (v : Byte) : Statement (.incZp v) := fits 0xE6 v 0 _ rfl rfl rfl
theorem iscZp (v : Byte) : Statement (.iscZp v) := fits 0xE7 v 0 _ rfl rfl rfl
theorem inx : Statement .inx := fits 0xE8 0 0 _ rfl rfl rfl
theorem sbcImm (v : Byte) : Statement (.sbcImm v) := fits 0xE9 v 0 _ rfl rfl rfl
theorem nop : Statement .nop := fits 0xEA 0 0 _ rfl rfl rfl
theorem usbc (v : Byte) : Statement (.usbc v) := fits 0xEB v 0 _ rfl rfl rfl
theorem cpxAbs (a : Addr) : Statement (.cpxAbs a) :=
  fits 0xEC (loByte a) (hiByte a) _ rfl rfl (congrArg Instr.cpxAbs (word16_hi_lo a))
theorem sbcAbs (a : Addr) : Statement (.sbcAbs a) :=
  fits 0xED (loByte a) (hiByte a) _ rfl rfl (congrArg Instr.sbcAbs (word16_hi_lo a))
theorem incAbs (a : Addr) : Statement (.incAbs a) :=
  fits 0xEE (loByte a) (hiByte a) _ rfl rfl (congrArg Instr.incAbs (word16_hi_lo a))
theorem iscAbs (a : Addr) : Statement (.iscAbs a) :=
  fits 0xEF (loByte a) (hiByte a) _ rfl rfl (congrArg Instr.iscAbs (word16_hi_lo a))
theorem beq (v : Byte) : Statement (.beq v) := fits 0xF0 v 0 _ rfl rfl rfl
theorem sbcIndy (v : Byte) : Statement (.sbcIndy v) := fits 0xF1 v 0 _ rfl rfl rfl
theorem unlF2 : Statement .unlF2 := fits 0xF2 0 0 _ rfl rfl rfl
theorem iscIndy (v : Byte) : Statement (.iscIndy v) := fits 0xF3 v 0 _ rfl rfl rfl
theorem dopF4 (v : Byte) : Statement (.dopF4 v) := fits 0xF4 v 0 _ rfl rfl rfl
theorem sbcZpx (v : Byte) : Statement (.sbcZpx v) := fits 0xF5 v 0 _ rfl rfl rfl
theorem incZpx (v : Byte) : Statement (.incZpx v) := fits 0xF6 v 0 _ rfl rfl rfl
theorem iscZpx (v : Byte) : Statement (.iscZpx v) := fits 0xF7 v 0 _ rfl rfl rfl
theorem sed : Statement .sed := fits 0xF8 0 0 _ rfl rfl rfl
theorem sbcAbsy (a : Addr) : Statement (.sbcAbsy a) :=
  fits 0xF9 (loByte a) (hiByte a) _ rfl rfl (congrArg Instr.sbcAbsy (word16_hi_lo a))
theorem nop1xFA : Statement .nop1xFA := fits 0xFA 0 0 _ rfl rfl rfl
theorem iscAbsy (a : Addr) : Statement (.iscAbsy a) :=
  fits 0xFB (loByte a) (hiByte a) _ rfl rfl (congrArg Instr.iscAbsy (word16_hi_lo a))
theorem topFC (a : Addr) : Statement (.topFC a) :=
  fits 0xFC (loByte a) (hiByte a) _ rfl rfl (congrArg Instr.topFC (word16_hi_lo a))
theorem sbcAbsx (a : Addr) : Statement (.sbcAbsx a) :=
  fits 0xFD (loByte a) (hiByte a) _ rfl rfl (congrArg Instr.sbcAbsx (word16_hi_lo a))
theorem incAbsx (a : Addr) : Statement (.incAbsx a) :=
  fits 0xFE (loByte a) (hiByte a) _ rfl rfl (congrArg Instr.incAbsx (word16_hi_lo a))
theorem iscAbsx (a : Addr) : Statement (.iscAbsx a) :=
  fits 0xFF (loByte a) (hiByte a) _ rfl rfl (congrArg Instr.iscAbsx (word16_hi_lo a))

end Sys2Proof.Laws.Decodes
end

