-- ==== Sys2Proof/Tests/Slice0.lean ====
section
/-! SUPPORT. Tests/Slice0.lean: the package's own checks. Words are written from the encodings of spec/30_encoding.md and
spec/opcode_table.json, expected results from the vectors of spec/95_test_vectors.md. -/

namespace Sys2Proof.Tests

open Sys2Proof Sys2Proof.Machine

/-! Well-formedness -/

/-- An unlisted opcode has no known length (R131): refused by the check. -/
theorem test_wellFormed_refuses_unl02 : WellFormed .unl02 = false := by decide

/-- An instruction of the table is accepted, whatever its operand. -/
theorem test_wellFormed_accepts : WellFormed (.ldaImm 0xFF) = true ∧ WellFormed .nop1xFA = true := by decide

/-! Decoding: one word for each constructor, opcode value by opcode value (R125, R126, R131), operand bytes low first (R80) -/

theorem test_decode_0x :
    ([[0x00], [0x01, 0x81], [0x02], [0x03, 0x83], [0x04, 0x84], [0x05, 0x85], [0x06, 0x86], [0x07, 0x87], [0x08],
      [0x09, 0x89], [0x0A], [0x0B], [0x0C, 0x8C, 0x3C], [0x0D, 0x8D, 0x3C], [0x0E, 0x8E, 0x3C], [0x0F, 0x8F, 0x3C]] :
      List (List Byte)).map decode =
    ([.brk, .oraIndx 0x81, .unl02, .sloIndx 0x83, .dop04 0x84, .oraZp 0x85, .aslZp 0x86, .sloZp 0x87, .php,
      .oraImm 0x89, .aslAcc, .unl0B, .top0C 0x3C8C, .oraAbs 0x3C8D, .aslAbs 0x3C8E, .sloAbs 0x3C8F] :
      List Instr).map (fun i => .ok (i, [])) := rfl

theorem test_decode_1x :
    ([[0x10, 0x80], [0x11, 0x81], [0x12], [0x13, 0x83], [0x14, 0x84], [0x15, 0x85], [0x16, 0x86], [0x17, 0x87],
      [0x18], [0x19, 0x89, 0x3C], [0x1A], [0x1B, 0x8B, 0x3C], [0x1C, 0x8C, 0x3C], [0x1D, 0x8D, 0x3C],
      [0x1E, 0x8E, 0x3C], [0x1F, 0x8F, 0x3C]] :
      List (List Byte)).map decode =
    ([.bpl 0x80, .oraIndy 0x81, .unl12, .sloIndy 0x83, .dop14 0x84, .oraZpx 0x85, .aslZpx 0x86, .sloZpx 0x87, .clc,
      .oraAbsy 0x3C89, .nop1x1A, .sloAbsy 0x3C8B, .top1C 0x3C8C, .oraAbsx 0x3C8D, .aslAbsx 0x3C8E, .sloAbsx 0x3C8F] :
      List Instr).map (fun i => .ok (i, [])) := rfl

theorem test_decode_2x :
    ([[0x20, 0x80, 0x3C], [0x21, 0x81], [0x22], [0x23, 0x83], [0x24, 0x84], [0x25, 0x85], [0x26, 0x86], [0x27, 0x87],
      [0x28], [0x29, 0x89], [0x2A], [0x2B], [0x2C, 0x8C, 0x3C], [0x2D, 0x8D, 0x3C], [0x2E, 0x8E, 0x3C],
      [0x2F, 0x8F, 0x3C]] :
      List (List Byte)).map decode =
    ([.jsr 0x3C80, .andIndx 0x81, .unl22, .rlaIndx 0x83, .bitZp 0x84, .andZp 0x85, .rolZp 0x86, .rlaZp 0x87, .plp,
      .andImm 0x89, .rolAcc, .unl2B, .bitAbs 0x3C8C, .andAbs 0x3C8D, .rolAbs 0x3C8E, .rlaAbs 0x3C8F] :
      List Instr).map (fun i => .ok (i, [])) := rfl

theorem test_decode_3x :
    ([[0x30, 0x80], [0x31, 0x81], [0x32], [0x33, 0x83], [0x34, 0x84], [0x35, 0x85], [0x36, 0x86], [0x37, 0x87],
      [0x38], [0x39, 0x89, 0x3C], [0x3A], [0x3B, 0x8B, 0x3C], [0x3C, 0x8C, 0x3C], [0x3D, 0x8D, 0x3C],
      [0x3E, 0x8E, 0x3C], [0x3F, 0x8F, 0x3C]] :
      List (List Byte)).map decode =
    ([.bmi 0x80, .andIndy 0x81, .unl32, .rlaIndy 0x83, .dop34 0x84, .andZpx 0x85, .rolZpx 0x86, .rlaZpx 0x87, .sec,
      .andAbsy 0x3C89, .nop1x3A, .rlaAbsy 0x3C8B, .top3C 0x3C8C, .andAbsx 0x3C8D, .rolAbsx 0x3C8E, .rlaAbsx 0x3C8F] :
      List Instr).map (fun i => .ok (i, [])) := rfl

theorem test_decode_4x :
    ([[0x40], [0x41, 0x81], [0x42], [0x43, 0x83], [0x44, 0x84], [0x45, 0x85], [0x46, 0x86], [0x47, 0x87], [0x48],
      [0x49, 0x89], [0x4A], [0x4B], [0x4C, 0x8C, 0x3C], [0x4D, 0x8D, 0x3C], [0x4E, 0x8E, 0x3C], [0x4F, 0x8F, 0x3C]] :
      List (List Byte)).map decode =
    ([.rti, .eorIndx 0x81, .unl42, .sreIndx 0x83, .dop44 0x84, .eorZp 0x85, .lsrZp 0x86, .sreZp 0x87, .pha,
      .eorImm 0x89, .lsrAcc, .unl4B, .jmpAbs 0x3C8C, .eorAbs 0x3C8D, .lsrAbs 0x3C8E, .sreAbs 0x3C8F] :
      List Instr).map (fun i => .ok (i, [])) := rfl

theorem test_decode_5x :
    ([[0x50, 0x80], [0x51, 0x81], [0x52], [0x53, 0x83], [0x54, 0x84], [0x55, 0x85], [0x56, 0x86], [0x57, 0x87],
      [0x58], [0x59, 0x89, 0x3C], [0x5A], [0x5B, 0x8B, 0x3C], [0x5C, 0x8C, 0x3C], [0x5D, 0x8D, 0x3C],
      [0x5E, 0x8E, 0x3C], [0x5F, 0x8F, 0x3C]] :
      List (List Byte)).map decode =
    ([.bvc 0x80, .eorIndy 0x81, .unl52, .sreIndy 0x83, .dop54 0x84, .eorZpx 0x85, .lsrZpx 0x86, .sreZpx 0x87, .cli,
      .eorAbsy 0x3C89, .nop1x5A, .sreAbsy 0x3C8B, .top5C 0x3C8C, .eorAbsx 0x3C8D, .lsrAbsx 0x3C8E, .sreAbsx 0x3C8F] :
      List Instr).map (fun i => .ok (i, [])) := rfl

theorem test_decode_6x :
    ([[0x60], [0x61, 0x81], [0x62], [0x63, 0x83], [0x64, 0x84], [0x65, 0x85], [0x66, 0x86], [0x67, 0x87], [0x68],
      [0x69, 0x89], [0x6A], [0x6B], [0x6C, 0x8C, 0x3C], [0x6D, 0x8D, 0x3C], [0x6E, 0x8E, 0x3C], [0x6F, 0x8F, 0x3C]] :
      List (List Byte)).map decode =
    ([.rts, .adcIndx 0x81, .unl62, .rraIndx 0x83, .dop64 0x84, .adcZp 0x85, .rorZp 0x86, .rraZp 0x87, .pla,
      .adcImm 0x89, .rorAcc, .unl6B, .jmpInd 0x3C8C, .adcAbs 0x3C8D, .rorAbs 0x3C8E, .rraAbs 0x3C8F] :
      List Instr).map (fun i => .ok (i, [])) := rfl

theorem test_decode_7x :
    ([[0x70, 0x80], [0x71, 0x81], [0x72], [0x73, 0x83], [0x74, 0x84], [0x75, 0x85], [0x76, 0x86], [0x77, 0x87],
      [0x78], [0x79, 0x89, 0x3C], [0x7A], [0x7B, 0x8B, 0x3C], [0x7C, 0x8C, 0x3C], [0x7D, 0x8D, 0x3C],
      [0x7E, 0x8E, 0x3C], [0x7F, 0x8F, 0x3C]] :
      List (List Byte)).map decode =
    ([.bvs 0x80, .adcIndy 0x81, .unl72, .rraIndy 0x83, .dop74 0x84, .adcZpx 0x85, .rorZpx 0x86, .rraZpx 0x87, .sei,
      .adcAbsy 0x3C89, .nop1x7A, .rraAbsy 0x3C8B, .top7C 0x3C8C, .adcAbsx 0x3C8D, .rorAbsx 0x3C8E, .rraAbsx 0x3C8F] :
      List Instr).map (fun i => .ok (i, [])) := rfl

theorem test_decode_8x :
    ([[0x80, 0x80], [0x81, 0x81], [0x82, 0x82], [0x83, 0x83], [0x84, 0x84], [0x85, 0x85], [0x86, 0x86], [0x87, 0x87],
      [0x88], [0x89, 0x89], [0x8A], [0x8B], [0x8C, 0x8C, 0x3C], [0x8D, 0x8D, 0x3C], [0x8E, 0x8E, 0x3C],
      [0x8F, 0x8F, 0x3C]] :
      List (List Byte)).map decode =
    ([.dop80 0x80, .staIndx 0x81, .dop82 0x82, .saxIndx 0x83, .styZp 0x84, .staZp 0x85, .stxZp 0x86, .saxZp 0x87,
      .dey, .dop89 0x89, .txa, .unl8B, .styAbs 0x3C8C, .staAbs 0x3C8D, .stxAbs 0x3C8E, .saxAbs 0x3C8F] :
      List Instr).map (fun i => .ok (i, [])) := rfl

theorem test_decode_9x :
    ([[0x90, 0x80], [0x91, 0x81], [0x92], [0x93], [0x94, 0x84], [0x95, 0x85], [0x96, 0x86], [0x97, 0x87], [0x98],
      [0x99, 0x89, 0x3C], [0x9A], [0x9B], [0x9C], [0x9D, 0x8D, 0x3C], [0x9E], [0x9F]] :
      List (List Byte)).map decode =
    ([.bcc 0x80, .staIndy 0x81, .unl92, .unl93, .styZpx 0x84, .staZpx 0x85, .stxZpy 0x86, .saxZpy 0x87, .tya,
      .staAbsy 0x3C89, .txs, .unl9B, .unl9C, .staAbsx 0x3C8D, .unl9E, .unl9F] :
      List Instr).map (fun i => .ok (i, [])) := rfl

theorem test_decode_Ax :
    ([[0xA0, 0x80], [0xA1, 0x81], [0xA2, 0x82], [0xA3, 0x83], [0xA4, 0x84], [0xA5, 0x85], [0xA6, 0x86], [0xA7, 0x87],
      [0xA8], [0xA9, 0x89], [0xAA], [0xAB], [0xAC, 0x8C, 0x3C], [0xAD, 0x8D, 0x3C], [0xAE, 0x8E, 0x3C],
      [0xAF, 0x8F, 0x3C]] :
      List (List Byte)).map decode =
    ([.ldyImm 0x80, .ldaIndx 0x81, .ldxImm 0x82, .laxIndx 0x83, .ldyZp 0x84, .ldaZp 0x85, .ldxZp 0x86, .laxZp 0x87,
      .tay, .ldaImm 0x89, .tax, .unlAB, .ldyAbs 0x3C8C, .ldaAbs 0x3C8D, .ldxAbs 0x3C8E, .laxAbs 0x3C8F] :
      List Instr).map (fun i => .ok (i, [])) := rfl

theorem test_decode_Bx :
    ([[0xB0, 0x80], [0xB1, 0x81], [0xB2], [0xB3, 0x83], [0xB4, 0x84], [0xB5, 0x85], [0xB6, 0x86], [0xB7, 0x87],
      [0xB8], [0xB9, 0x89, 0x3C], [0xBA], [0xBB], [0xBC, 0x8C, 0x3C], [0xBD, 0x8D, 0x3C], [0xBE, 0x8E, 0x3C],
      [0xBF, 0x8F, 0x3C]] :
      List (List Byte)).map decode =
    ([.bcs 0x80, .ldaIndy 0x81, .unlB2, .laxIndy 0x83, .ldyZpx 0x84, .ldaZpx 0x85, .ldxZpy 0x86, .laxZpy 0x87, .clv,
      .ldaAbsy 0x3C89, .tsx, .unlBB, .ldyAbsx 0x3C8C, .ldaAbsx 0x3C8D, .ldxAbsy 0x3C8E, .laxAbsy 0x3C8F] :
      List Instr).map (fun i => .ok (i, [])) := rfl

theorem test_decode_Cx :
    ([[0xC0, 0x80], [0xC1, 0x81], [0xC2, 0x82], [0xC3, 0x83], [0xC4, 0x84], [0xC5, 0x85], [0xC6, 0x86], [0xC7, 0x87],
      [0xC8], [0xC9, 0x89], [0xCA], [0xCB], [0xCC, 0x8C, 0x3C], [0xCD, 0x8D, 0x3C], [0xCE, 0x8E, 0x3C],
      [0xCF, 0x8F, 0x3C]] :
      List (List Byte)).map decode =
    ([.cpyImm 0x80, .cmpIndx 0x81, .dopC2 0x82, .dcpIndx 0x83, .cpyZp 0x84, .cmpZp 0x85, .decZp 0x86, .dcpZp 0x87,
      .iny, .cmpImm 0x89, .dex, .unlCB, .cpyAbs 0x3C8C, .cmpAbs 0x3C8D, .decAbs 0x3C8E, .dcpAbs 0x3C8F] :
      List Instr).map (fun i => .ok (i, [])) := rfl

theorem test_decode_Dx :
    ([[0xD0, 0x80], [0xD1, 0x81], [0xD2], [0xD3, 0x83], [0xD4, 0x84], [0xD5, 0x85], [0xD6, 0x86], [0xD7, 0x87],
      [0xD8], [0xD9, 0x89, 0x3C], [0xDA], [0xDB, 0x8B, 0x3C], [0xDC, 0x8C, 0x3C], [0xDD, 0x8D, 0x3C],
      [0xDE, 0x8E, 0x3C], [0xDF, 0x8F, 0x3C]] :
      List (List Byte)).map decode =
    ([.bne 0x80, .cmpIndy 0x81, .unlD2, .dcpIndy 0x83, .dopD4 0x84, .cmpZpx 0x85, .decZpx 0x86, .dcpZpx 0x87, .cld,
      .cmpAbsy 0x3C89, .nop1xDA, .dcpAbsy 0x3C8B, .topDC 0x3C8C, .cmpAbsx 0x3C8D, .decAbsx 0x3C8E, .dcpAbsx 0x3C8F] :
      List Instr).map (fun i => .ok (i, [])) := rfl

theorem test_decode_Ex :
    ([[0xE0, 0x80], [0xE1, 0x81], [0xE2, 0x82], [0xE3, 0x83], [0xE4, 0x84], [0xE5, 0x85], [0xE6, 0x86], [0xE7, 0x87],
      [0xE8], [0xE9, 0x89], [0xEA], [0xEB, 0x8B], [0xEC, 0x8C, 0x3C], [0xED, 0x8D, 0x3C], [0xEE, 0x8E, 0x3C],
      [0xEF, 0x8F, 0x3C]] :
      List (List Byte)).map decode =
    ([.cpxImm 0x80, .sbcIndx 0x81, .dopE2 0x82, .iscIndx 0x83, .cpxZp 0x84, .sbcZp 0x85, .incZp 0x86, .iscZp 0x87,
      .inx, .sbcImm 0x89, .nop, .usbc 0x8B, .cpxAbs 0x3C8C, .sbcAbs 0x3C8D, .incAbs 0x3C8E, .iscAbs 0x3C8F] :
      List Instr).map (fun i => .ok (i, [])) := rfl

theorem test_decode_Fx :
    ([[0xF0, 0x80], [0xF1, 0x81], [0xF2], [0xF3, 0x83], [0xF4, 0x84], [0xF5, 0x85], [0xF6, 0x86], [0xF7, 0x87],
      [0xF8], [0xF9, 0x89, 0x3C], [0xFA], [0xFB, 0x8B, 0x3C], [0xFC, 0x8C, 0x3C], [0xFD, 0x8D, 0x3C],
      [0xFE, 0x8E, 0x3C], [0xFF, 0x8F, 0x3C]] :
      List (List Byte)).map decode =
    ([.beq 0x80, .sbcIndy 0x81, .unlF2, .iscIndy 0x83, .dopF4 0x84, .sbcZpx 0x85, .incZpx 0x86, .iscZpx 0x87, .sed,
      .sbcAbsy 0x3C89, .nop1xFA, .iscAbsy 0x3C8B, .topFC 0x3C8C, .sbcAbsx 0x3C8D, .incAbsx 0x3C8E, .iscAbsx 0x3C8F] :
      List Instr).map (fun i => .ok (i, [])) := rfl

/-- The rejections: no byte, and operand bytes missing. -/
theorem test_decode_short :
    decode [] = .error .noOpcode ∧ decode [0xA9] = .error (.missingOperand 0xA9) ∧
      decode [0x6C, 0x00] = .error (.missingOperand 0x6C) := ⟨rfl, rfl, rfl⟩

/-- The table's numbering: bit 0 is the least significant bit of the first byte. -/
theorem test_decodeTableWord :
    decodeTableWord 24 0x02FF6C = some (.jmpInd 0x02FF) ∧ decodeTableWord 8 0xEA = some .nop ∧
      decodeTableWord 8 0x02 = some .unl02 := ⟨rfl, rfl, rfl⟩

/-! One step, from 0x8000 in PRG ROM, with the vectors NMI = 0x9000 and IRQ/BRK = 0xA000 (95_test_vectors.md) -/

/-- A memory from a list of cells, in canonical form. -/
def cells (l : List (Nat × Byte)) : Memory := l.foldl (fun m c => m.write c.1 c.2) []

/-- The launch state of 95_test_vectors.md with code at 0x8000, registers A, X, Y, S, P, and RAM cells. -/
def start (code : List Byte) (regs : Byte × Byte × Byte × Byte × Byte) (ram : List (Nat × Byte)) : State :=
  { State.reset with
    a := regs.1, x := regs.2.1, y := regs.2.2.1, sp := regs.2.2.2.1, p := regs.2.2.2.2, pc := 0x8000, ram := cells ram
    cart := { Cartridge.blank with
      prgRom := cells ((code.mapIdx (fun i b => (i, b))) ++ [(0x7FFB, 0x90), (0x7FFF, 0xA0)]) } }

/-- One row of a vector table: code, start registers, RAM cells, end registers, end PC, cycles, and bytes of memory read
through the bus at the end. -/
def row (code : List Byte) (regs : Byte × Byte × Byte × Byte × Byte) (ram : List (Nat × Byte))
    (after : Byte × Byte × Byte × Byte × Byte) (pc : Addr) (cycles : Nat) (mem : List (Addr × Byte)) : Bool :=
  match step (start code regs ram) with
  | .next t =>
    (t.a, t.x, t.y, t.sp, t.p) == after && t.pc == pc && t.opCycles == cycles && mem.all (fun c => (busRead c.1 t).1 == c.2)
  | .fault _ => false
  | .refused _ => false

/-- Vectors A1, A3, A5, A7, A9, A10, A11, A13 of 95_test_vectors.md. -/
theorem test_addressing :
    (row [0xB5, 0x80] (0x00, 0xFF, 0x00, 0xFD, 0x24) [(0x7F, 0x11), (0x17F, 0x22)] (0x11, 0xFF, 0x00, 0xFD, 0x24)
        0x8002 4 [] &&
      row [0xA1, 0xFF] (0x00, 0x00, 0x00, 0xFD, 0x24)
        [(0x0, 0x02), (0xFF, 0x34), (0x100, 0x07), (0x234, 0x55), (0x734, 0x66)] (0x55, 0x00, 0x00, 0xFD, 0x24) 0x8002 6 [] &&
      row [0xB1, 0x10] (0x00, 0x00, 0x20, 0xFD, 0x24) [(0x10, 0xF0), (0x11, 0x02), (0x310, 0x88)]
        (0x88, 0x00, 0x20, 0xFD, 0xA4) 0x8002 6 [] &&
      row [0xB1, 0xFF] (0x00, 0x00, 0x01, 0xFD, 0x24)
        [(0x0, 0x03), (0xFF, 0x00), (0x100, 0x05), (0x301, 0xAA), (0x501, 0xBB)] (0xAA, 0x00, 0x01, 0xFD, 0xA4) 0x8002 5 [] &&
      row [0xBD, 0xF0, 0x02] (0x00, 0x10, 0x00, 0xFD, 0x24) [(0x300, 0x13)] (0x13, 0x10, 0x00, 0xFD, 0x24) 0x8003 5 [] &&
      row [0xB9, 0xF0, 0xFF] (0x00, 0x00, 0x20, 0xFD, 0x24) [(0x10, 0x14)] (0x14, 0x00, 0x20, 0xFD, 0x24) 0x8003 5 [] &&
      row [0x9D, 0xF0, 0x02] (0x5A, 0x10, 0x00, 0xFD, 0x24) [] (0x5A, 0x10, 0x00, 0xFD, 0x24) 0x8003 5 [(0x0300, 0x5A)] &&
      row [0x6C, 0xFF, 0x02] (0x00, 0x00, 0x00, 0xFD, 0x24) [(0x200, 0x80), (0x2FF, 0x40), (0x300, 0x90)]
        (0x00, 0x00, 0x00, 0xFD, 0x24) 0x8040 5 []) = true := by
  decide +kernel

/-- Vectors L2, L4, L5, L8, L9, L10, U1, U5 of 95_test_vectors.md. -/
theorem test_loads_and_stores :
    (row [0xA9, 0x80] (0x00, 0x00, 0x00, 0xFD, 0x24) [] (0x80, 0x00, 0x00, 0xFD, 0xA4) 0x8002 2 [] &&
      row [0xA2, 0xFF] (0x00, 0x00, 0x00, 0xFD, 0x24) [] (0x00, 0xFF, 0x00, 0xFD, 0xA4) 0x8002 2 [] &&
      row [0xA0, 0x00] (0x00, 0x00, 0x05, 0xFD, 0x24) [] (0x00, 0x00, 0x00, 0xFD, 0x26) 0x8002 2 [] &&
      row [0x85, 0x10] (0x00, 0x00, 0x00, 0xFD, 0xA4) [] (0x00, 0x00, 0x00, 0xFD, 0xA4) 0x8002 3 [(0x0010, 0x00)] &&
      row [0x8E, 0x00, 0x18] (0x00, 0x9C, 0x00, 0xFD, 0x24) [] (0x00, 0x9C, 0x00, 0xFD, 0x24)
        0x8003 4 [(0x0000, 0x9C), (0x0800, 0x9C), (0x1000, 0x9C), (0x1800, 0x9C)] &&
      row [0x84, 0x20] (0x00, 0x00, 0x80, 0xFD, 0x24) [] (0x00, 0x00, 0x80, 0xFD, 0x24) 0x8002 3 [(0x0020, 0x80)] &&
      row [0xA7, 0x10] (0x00, 0x00, 0x00, 0xFD, 0x24) [(0x10, 0x80)] (0x80, 0x80, 0x00, 0xFD, 0xA4) 0x8002 3 [] &&
      row [0x97, 0xFF] (0xFF, 0x0F, 0x02, 0xFD, 0x24) [] (0xFF, 0x0F, 0x02, 0xFD, 0x24) 0x8002 4 [(0x0001, 0x0F)])
        = true := by
  decide +kernel

/-- Vectors L11, L12, L13, L14, L16, L17 of 95_test_vectors.md. -/
theorem test_transfers :
    (row [0xAA] (0x80, 0x00, 0x00, 0xFD, 0x24) [] (0x80, 0x80, 0x00, 0xFD, 0xA4) 0x8001 2 [] &&
      row [0xA8] (0x00, 0x00, 0x07, 0xFD, 0x24) [] (0x00, 0x00, 0x00, 0xFD, 0x26) 0x8001 2 [] &&
      row [0x8A] (0xFF, 0x7F, 0x00, 0xFD, 0xA4) [] (0x7F, 0x7F, 0x00, 0xFD, 0x24) 0x8001 2 [] &&
      row [0x98] (0x01, 0x00, 0x00, 0xFD, 0x24) [] (0x00, 0x00, 0x00, 0xFD, 0x26) 0x8001 2 [] &&
      row [0xBA] (0x00, 0x09, 0x00, 0x00, 0x24) [] (0x00, 0x00, 0x00, 0x00, 0x26) 0x8001 2 [] &&
      row [0x9A] (0x00, 0x00, 0x00, 0xFD, 0x24) [] (0x00, 0x00, 0x00, 0x00, 0x24) 0x8001 2 []) = true := by
  decide +kernel

/-- Vectors L20, L22, L24, L25 of 95_test_vectors.md. -/
theorem test_stack :
    (row [0x48] (0x42, 0x00, 0x00, 0x00, 0x24) [] (0x42, 0x00, 0x00, 0xFF, 0x24) 0x8001 3 [(0x0100, 0x42)] &&
      row [0x08] (0x00, 0x00, 0x00, 0xFD, 0xE5) [] (0x00, 0x00, 0x00, 0xFC, 0xE5) 0x8001 3 [(0x01FD, 0xF5)] &&
      row [0x68] (0x00, 0x00, 0x00, 0xFF, 0x26) [(0x100, 0x80)] (0x80, 0x00, 0x00, 0x00, 0xA4) 0x8001 4 [] &&
      row [0x28] (0x00, 0x00, 0x00, 0xFC, 0x24) [(0x1FD, 0xFF)] (0x00, 0x00, 0x00, 0xFD, 0xEF) 0x8001 4 []) = true := by
  decide +kernel

/-- Vectors M1, M3, M6, M8, U6 of 95_test_vectors.md. -/
theorem test_arithmetic :
    (row [0x69, 0x50] (0x50, 0x00, 0x00, 0xFD, 0x24) [] (0xA0, 0x00, 0x00, 0xFD, 0xE4) 0x8002 2 [] &&
      row [0x69, 0x00] (0x7F, 0x00, 0x00, 0xFD, 0x25) [] (0x80, 0x00, 0x00, 0xFD, 0xE4) 0x8002 2 [] &&
      row [0x69, 0x01] (0x09, 0x00, 0x00, 0xFD, 0x2C) [] (0x0A, 0x00, 0x00, 0xFD, 0x2C) 0x8002 2 [] &&
      row [0xE9, 0xF0] (0x50, 0x00, 0x00, 0xFD, 0x25) [] (0x60, 0x00, 0x00, 0xFD, 0x24) 0x8002 2 [] &&
      row [0xEB, 0x01] (0x00, 0x00, 0x00, 0xFD, 0x25) [] (0xFF, 0x00, 0x00, 0xFD, 0xA4) 0x8002 2 []) = true := by
  decide +kernel

/-- Vectors M16, M18, M20, M22, M25, M29, M31 of 95_test_vectors.md. -/
theorem test_logic_and_compare :
    (row [0x29, 0x0F] (0xF0, 0x00, 0x00, 0xFD, 0x24) [] (0x00, 0x00, 0x00, 0xFD, 0x26) 0x8002 2 [] &&
      row [0x09, 0x00] (0x00, 0x00, 0x00, 0xFD, 0x24) [] (0x00, 0x00, 0x00, 0xFD, 0x26) 0x8002 2 [] &&
      row [0x49, 0xFF] (0xFF, 0x00, 0x00, 0xFD, 0x24) [] (0x00, 0x00, 0x00, 0xFD, 0x26) 0x8002 2 [] &&
      row [0x24, 0x10] (0x01, 0x00, 0x00, 0xFD, 0x24) [(0x10, 0xC0)] (0x01, 0x00, 0x00, 0xFD, 0xE6) 0x8002 3 [] &&
      row [0xC9, 0x40] (0x40, 0x00, 0x00, 0xFD, 0x24) [] (0x40, 0x00, 0x00, 0xFD, 0x27) 0x8002 2 [] &&
      row [0xE0, 0x10] (0x00, 0x20, 0x00, 0xFD, 0x24) [] (0x00, 0x20, 0x00, 0xFD, 0x25) 0x8002 2 [] &&
      row [0xC0, 0x80] (0x00, 0x00, 0x7F, 0xFD, 0x24) [] (0x00, 0x00, 0x7F, 0xFD, 0xA4) 0x8002 2 []) = true := by
  decide +kernel

/-- Vectors J1, J3, J5, J8, J10 of 95_test_vectors.md. -/
theorem test_jumps :
    (row [0x4C, 0x34, 0x92] (0x00, 0x00, 0x00, 0xFD, 0x24) [] (0x00, 0x00, 0x00, 0xFD, 0x24) 0x9234 3 [] &&
      row [0x20, 0x34, 0x92] (0x00, 0x00, 0x00, 0x00, 0x24) [] (0x00, 0x00, 0x00, 0xFE, 0x24)
        0x9234 6 [(0x0100, 0x80), (0x01FF, 0x02)] &&
      row [0x60] (0x00, 0x00, 0x00, 0xFB, 0x24) [(0x1FC, 0xFF), (0x1FD, 0x80)] (0x00, 0x00, 0x00, 0xFD, 0x24) 0x8100 6 [] &&
      row [0x00, 0xEA] (0x00, 0x00, 0x00, 0xFD, 0xE7) [] (0x00, 0x00, 0x00, 0xFA, 0xE7)
        0xA000 7 [(0x01FD, 0x80), (0x01FC, 0x02), (0x01FB, 0xF7)] &&
      row [0x40] (0x00, 0x00, 0x00, 0xFA, 0xFF) [(0x1FB, 0x00), (0x1FC, 0x00), (0x1FD, 0xC0)]
        (0x00, 0x00, 0x00, 0xFD, 0x20) 0xC000 6 []) = true := by
  decide +kernel

/-- Vectors J11, J12, J13, J14, J15, J16, J17, J18 of 95_test_vectors.md. -/
theorem test_flags :
    (row [0x18] (0x00, 0x00, 0x00, 0xFD, 0xEF) [] (0x00, 0x00, 0x00, 0xFD, 0xEE) 0x8001 2 [] &&
      row [0x38] (0x00, 0x00, 0x00, 0xFD, 0x20) [] (0x00, 0x00, 0x00, 0xFD, 0x21) 0x8001 2 [] &&
      row [0x58] (0x00, 0x00, 0x00, 0xFD, 0xEF) [] (0x00, 0x00, 0x00, 0xFD, 0xEB) 0x8001 2 [] &&
      row [0x78] (0x00, 0x00, 0x00, 0xFD, 0x20) [] (0x00, 0x00, 0x00, 0xFD, 0x24) 0x8001 2 [] &&
      row [0xD8] (0x00, 0x00, 0x00, 0xFD, 0xEF) [] (0x00, 0x00, 0x00, 0xFD, 0xE7) 0x8001 2 [] &&
      row [0xF8] (0x00, 0x00, 0x00, 0xFD, 0x20) [] (0x00, 0x00, 0x00, 0xFD, 0x28) 0x8001 2 [] &&
      row [0xB8] (0x00, 0x00, 0x00, 0xFD, 0xEF) [] (0x00, 0x00, 0x00, 0xFD, 0xAF) 0x8001 2 [] &&
      row [0xEA] (0x00, 0x00, 0x00, 0xFD, 0xEF) [] (0x00, 0x00, 0x00, 0xFD, 0xEF) 0x8001 2 []) = true := by
  decide +kernel

/-- Vectors H2, H4, H5, H7, H11, H12 of 95_test_vectors.md. -/
theorem test_shifts :
    (row [0x0A] (0x41, 0x00, 0x00, 0xFD, 0x25) [] (0x82, 0x00, 0x00, 0xFD, 0xA4) 0x8001 2 [] &&
      row [0x4A] (0x80, 0x00, 0x00, 0xFD, 0xA5) [] (0x40, 0x00, 0x00, 0xFD, 0x24) 0x8001 2 [] &&
      row [0x2A] (0x80, 0x00, 0x00, 0xFD, 0x25) [] (0x01, 0x00, 0x00, 0xFD, 0x25) 0x8001 2 [] &&
      row [0x6A] (0x01, 0x00, 0x00, 0xFD, 0x25) [] (0x80, 0x00, 0x00, 0xFD, 0xA5) 0x8001 2 [] &&
      row [0x36, 0xFF] (0x00, 0x02, 0x00, 0xFD, 0x25) [(0x1, 0x7F)] (0x00, 0x02, 0x00, 0xFD, 0xA4)
        0x8002 6 [(0x0001, 0xFF)] &&
      row [0x6E, 0x00, 0x03] (0x00, 0x00, 0x00, 0xFD, 0x25) [(0x300, 0x00)] (0x00, 0x00, 0x00, 0xFD, 0xA4)
        0x8003 6 [(0x0300, 0x80)]) = true := by
  decide +kernel

/-- Vectors H14, H15, H17, H18, H19, H20 of 95_test_vectors.md. -/
theorem test_increments :
    (row [0xFE, 0xFF, 0x02] (0x00, 0x01, 0x00, 0xFD, 0x24) [(0x300, 0x7F)] (0x00, 0x01, 0x00, 0xFD, 0xA4)
        0x8003 7 [(0x0300, 0x80)] &&
      row [0xC6, 0x10] (0x00, 0x00, 0x00, 0xFD, 0x24) [(0x10, 0x00)] (0x00, 0x00, 0x00, 0xFD, 0xA4)
        0x8002 5 [(0x0010, 0xFF)] &&
      row [0xE8] (0x00, 0xFF, 0x00, 0xFD, 0x24) [] (0x00, 0x00, 0x00, 0xFD, 0x26) 0x8001 2 [] &&
      row [0xC8] (0x00, 0x00, 0x7F, 0xFD, 0x24) [] (0x00, 0x00, 0x80, 0xFD, 0xA4) 0x8001 2 [] &&
      row [0xCA] (0x00, 0x00, 0x00, 0xFD, 0x24) [] (0x00, 0xFF, 0x00, 0xFD, 0xA4) 0x8001 2 [] &&
      row [0x88] (0x00, 0x00, 0x01, 0xFD, 0x24) [] (0x00, 0x00, 0x00, 0xFD, 0x26) 0x8001 2 []) = true := by
  decide +kernel

/-- Vectors U8, U9, U11, U12, U13, U15, U18 of 95_test_vectors.md. -/
theorem test_combined :
    (row [0xC7, 0x10] (0x40, 0x00, 0x00, 0xFD, 0x24) [(0x10, 0x00)] (0x40, 0x00, 0x00, 0xFD, 0x24)
        0x8002 5 [(0x0010, 0xFF)] &&
      row [0xE7, 0x10] (0x50, 0x00, 0x00, 0xFD, 0x25) [(0x10, 0xEF)] (0x60, 0x00, 0x00, 0xFD, 0x24)
        0x8002 5 [(0x0010, 0xF0)] &&
      row [0x07, 0x10] (0x01, 0x00, 0x00, 0xFD, 0x24) [(0x10, 0xC0)] (0x81, 0x00, 0x00, 0xFD, 0xA5)
        0x8002 5 [(0x0010, 0x80)] &&
      row [0x27, 0x10] (0xFF, 0x00, 0x00, 0xFD, 0x25) [(0x10, 0x80)] (0x01, 0x00, 0x00, 0xFD, 0x25)
        0x8002 5 [(0x0010, 0x01)] &&
      row [0x47, 0x10] (0xFF, 0x00, 0x00, 0xFD, 0x24) [(0x10, 0x03)] (0xFE, 0x00, 0x00, 0xFD, 0xA5)
        0x8002 5 [(0x0010, 0x01)] &&
      row [0x67, 0x10] (0x50, 0x00, 0x00, 0xFD, 0x25) [(0x10, 0xA0)] (0x20, 0x00, 0x00, 0xFD, 0x25)
        0x8002 5 [(0x0010, 0xD0)] &&
      row [0xF3, 0x10] (0x10, 0x00, 0x20, 0xFD, 0x25) [(0x10, 0xF0), (0x11, 0x02), (0x310, 0x0F)]
        (0x00, 0x00, 0x20, 0xFD, 0x27) 0x8002 8 [(0x0310, 0x10)]) = true := by
  decide +kernel

/-- Vectors U19, U22, U26, U27 of 95_test_vectors.md. -/
theorem test_unofficial_nops :
    (row [0x04, 0x10] (0x00, 0x00, 0x00, 0xFD, 0xE7) [] (0x00, 0x00, 0x00, 0xFD, 0xE7) 0x8002 3 [] &&
      row [0xE2, 0xFF] (0x00, 0x00, 0x00, 0xFD, 0x24) [] (0x00, 0x00, 0x00, 0xFD, 0x24) 0x8002 3 [] &&
      row [0x1C, 0xF0, 0x02] (0x00, 0x10, 0x00, 0xFD, 0x24) [] (0x00, 0x10, 0x00, 0xFD, 0x24) 0x8003 5 [] &&
      row [0x1A] (0x00, 0x00, 0x00, 0xFD, 0xE7) [] (0x00, 0x00, 0x00, 0xFD, 0xE7) 0x8001 2 []) = true := by
  decide +kernel

/-- Vectors B1 to B7, B9, B11 and B12 of 95_test_vectors.md: opcode, displacement, P, start PC, end PC, cycles. -/
theorem test_branches :
    ([(0xD0, 0x10, 0x26, 0x8000, 0x8002, 2), (0xD0, 0x10, 0x24, 0x8000, 0x8012, 3), (0xF0, 0xFC, 0x26, 0x8000, 0x7FFE, 4),
      (0xF0, 0xFE, 0x26, 0x8000, 0x8000, 3), (0x90, 0x7F, 0x24, 0x80F0, 0x8171, 4), (0xB0, 0x80, 0x25, 0x8010, 0x7F92, 4),
      (0x10, 0x00, 0x24, 0x80FE, 0x8100, 3), (0x30, 0x05, 0xA4, 0x8000, 0x8007, 3), (0x50, 0x05, 0x24, 0x8000, 0x8007, 3),
      (0x70, 0x05, 0x64, 0x8000, 0x8007, 3)] : List (Byte × Byte × Byte × Addr × Addr × Nat)).all
      (fun v =>
        match step (placeAtPc v.1 v.2.1 0 (((start [] (0, 0, 0, 0xFD, v.2.2.1) []).setPc v.2.2.2.1))) with
        | .next t => t.pc == v.2.2.2.2.1 && t.opCycles == v.2.2.2.2.2 && t.p == v.2.2.1
        | .fault _ => false
        | .refused _ => false) = true := by
  decide +kernel

/-- A service row of 95_test_vectors.md, section 2.7: what is pending, PC, S and P before; PC, S and P after; bytes pushed. -/
def service (q : Pending) (pc : Addr) (s p : Byte) (pc' : Addr) (s' p' : Byte) (mem : List (Addr × Byte)) : Bool :=
  match step (((start [] (0, 0, 0, s, p) []).setPc pc).setPending q) with
  | .next t =>
    t.pc == pc' && (t.sp, t.p) == (s', p') && t.opCycles == 7 && t.pending == .none &&
      mem.all (fun c => (busRead c.1 t).1 == c.2)
  | .fault _ => false
  | .refused _ => false

/-- Vectors X3, X4, X5 and X9 of 95_test_vectors.md. -/
theorem test_services :
    (service .nmi 0xC123 0xFD 0x6D 0x9000 0xFA 0x65 [(0x01FD, 0xC1), (0x01FC, 0x20), (0x01FB, 0x6D)] &&
      service .nmi 0xC123 0xFD 0x30 0x9000 0xFA 0x30 [(0x01FD, 0xC1), (0x01FC, 0x20), (0x01FB, 0x20)] &&
      service .irq 0xC123 0xFD 0x61 0xA000 0xFA 0x65 [(0x01FD, 0xC1), (0x01FC, 0x23), (0x01FB, 0x61)] &&
      service .irq 0xC123 0x01 0x61 0xA000 0xFE 0x65 [(0x0101, 0xC1), (0x0100, 0x23), (0x01FF, 0x61)]) = true := by
  decide +kernel

/-- R401, R411, R442: a console reset, then the step that services it, from vector X8's registers. -/
theorem test_reset_service :
    (match stepAfter [.reset] (start [] (0x11, 0x22, 0x33, 0x80, 0xEF) []) with
      | .next t => (t.a, t.x, t.y, t.sp, t.p, t.pending, t.opCycles) == (0, 0, 0, 0xFF, 0x22, .none, 7)
      | .fault _ => false
      | .refused _ => false) = true := by
  decide +kernel

/-- Scenario S7 of 95_test_vectors.md: palette mirroring. -/
theorem test_palette_mirroring :
    ppuRead Cartridge.blank (ppuWrite Cartridge.blank Ppu.powerOn 0x3F10 0xAB).2 0x3F00 = 0xAB ∧
      ppuRead Cartridge.blank (ppuWrite Cartridge.blank Ppu.powerOn 0x3F04 0xCD).2 0x3F14 = 0xCD := by
  decide

/-- Two register-6 writes give `t` and `v` (R326), here 0x3F10 through the mirrors 0x2006 and 0x3FFE. -/
theorem test_vram_addr_writes :
    ((busWrite 0x3FFE 0x10 (busWrite 0x2006 0x3F State.reset).2).2.ppu.v,
      (busWrite 0x3FFE 0x10 (busWrite 0x2006 0x3F State.reset).2).2.ppu.w) = (0x3F10, false) := by
  decide

/-- What the host asks: the word is fetched and run as the first instruction after reset. -/
theorem test_withFetchWord :
    (match step (State.reset.withFetchWord 16 0x80A9) with
      | .next t => (t.a, t.p, t.pc) == (0x80, 0xB4, 2)
      | .fault _ => false
      | .refused _ => false) = true := by
  decide +kernel

/-- The power-on values of `Init` (R440, formula F4 of 95_test_vectors.md) are those of `State.reset`. -/
theorem test_init : initMachine State.reset = State.reset := by decide +kernel

/-! Witnesses: for every statement with hypotheses, states and operands that meet them, each clause at the ends of its range -/

/-- A state with a PPU of one's own. -/
def withPpu (p : Ppu) : State := State.reset.setPpu p

/-- The PPU at a position with a given Mask. -/
def ppuAt (scanline dot : Nat) (mask : Byte) : Ppu := { Ppu.powerOn with scanline := scanline, dot := dot, mask := mask }

theorem window_low : inPpuWindow 0x2000 := ⟨by decide, by decide⟩
theorem window_high : inPpuWindow 0x3FFF := ⟨by decide, by decide⟩
theorem not_window_low : ¬inPpuWindow 0x1FFF := fun h => absurd h.1 (by decide)
theorem not_window_high : ¬inPpuWindow 0x4000 := fun h => absurd h.2 (by decide)

/-- The code LDA #0x80 at 0x0000, where the reset state's PC stands. -/
def ldaAtPc : State := placeAtPc 0xA9 0x80 0 State.reset

theorem witness_StepRunsDecoded :
    ldaAtPc.pending = .none ∧
    (∃ bs t u, fetchBytes (encode (.ldaImm 0x80)).length ldaAtPc = (bs, t) ∧ decode bs = .ok (.ldaImm 0x80, []) ∧
      exec (.ldaImm 0x80) t = .next u) ∧
    (∀ k < (encode (.ldaImm 0x80)).length, ¬inPpuWindow (ldaAtPc.pc + BitVec.ofNat 16 k) ∧
      (encode (.ldaImm 0x80))[k]? = some (busRead (ldaAtPc.pc + BitVec.ofNat 16 k) ldaAtPc).1) ∧
    ∃ u, exec (.ldaImm 0x80) (ldaAtPc.setPc (ldaAtPc.pc + BitVec.ofNat 16 2)) = .next u := by
  refine ⟨rfl, ⟨_, _, _, rfl, rfl, exec_eq _ _⟩, ?_, _, exec_eq _ _⟩
  intro k hk
  have h2 : k = 0 ∨ k = 1 := by have : k < 2 := hk; omega
  rcases h2 with rfl | rfl
  · exact ⟨fun h => absurd h.1 (by decide), by decide⟩
  · exact ⟨fun h => absurd h.1 (by decide), by decide⟩

theorem witness_StepServicesPending :
    (State.reset.setPending .reset).pending = .reset ∧ (State.reset.setPending .nmi).pending = .nmi ∧
    (((State.reset.setPending .irq).setP 0x20).pending = .irq ∧ flagI ((State.reset.setPending .irq).setP 0x20).p = false) ∧
    ((State.reset.setPending .irq).pending = .irq ∧ flagI (State.reset.setPending .irq).p = true ∧
      ∀ q : Pending, ∃ u, exec (fetchInstr ((State.reset.setPending .irq).setPending q)).1
        (fetchInstr ((State.reset.setPending .irq).setPending q)).2 = .next u) :=
  ⟨rfl, rfl, ⟨rfl, by decide⟩, rfl, by decide, fun _ => exec_next _ _⟩

/-- For StepDots, StepKeepsInv, StepKeepsCartridge and StatusBitFive: the reset state meets the invariant and steps; its CHR is
ROM; an instruction runs in it. -/
theorem witness_steps :
    State.reset.Inv ∧ (∃ t, step State.reset = .next t) ∧ State.reset.cart.chrIsRam = false ∧
    flagR State.reset.p = true ∧ ∃ t, exec .nop State.reset = .next t := by
  refine ⟨?_, ⟨_, step_eq _⟩, rfl, by decide, exec_next _ _⟩
  constructor
  · decide
  · exact ⟨by decide, by decide⟩
  · constructor <;> first | decide +kernel | exact ⟨by decide, by decide⟩
  · constructor <;> first | decide +kernel | exact ⟨by decide, by decide⟩

/-- For EventsKeepInv (with `witness_steps`): bank counts above 0, over maps that are not valid. -/
theorem witness_EventsKeepInv :
    0 < (State.reset.setCart { Cartridge.blank with prgMap := [99] }).cart.prgBanks ∧
      0 < (State.reset.setCart { Cartridge.blank with prgMap := [99] }).cart.chrBanks := by decide

theorem witness_RamMirroring : (0x1FFF#16).toNat < 0x2000 ∧ (0x0800#16).toNat < 0x2000 := by decide

/-- In RAM, PRG RAM at both ends, and where nothing is stored. -/
theorem witness_PlainWrite :
    (¬inPpuWindow 0x1FFF ∧ (0x1FFF#16 : Addr) ≠ 0x4014#16 ∧ storedBytes 0x1FFF 0x07FF ∧ ¬storedBytes 0x1FFF 0x0000) ∧
    (0x1FFF#16).toNat < 0x2000 ∧ (0x6000 ≤ (0x6000#16).toNat ∧ (0x7FFF#16).toNat < 0x8000) ∧
    (¬inPpuWindow 0x6000 ∧ storedBytes 0x6000 0x6000 ∧ ¬storedBytes 0x6000 0x6001) ∧
    (¬inPpuWindow 0x7FFF ∧ storedBytes 0x7FFF 0x7FFF) ∧
    (¬inPpuWindow 0x8000 ∧ ¬storesByte 0x8000) ∧ (¬inPpuWindow 0x5FFF ∧ ¬storesByte 0x5FFF) := by
  simp [inPpuWindow, storedBytes, storesByte]

/-- Both ends of the stubs, the expansion area, PRG RAM and PRG ROM; a map entry; a 16 KiB cartridge. -/
theorem witness_IoStubs :
    (0x4000 ≤ (0x4000#16).toNat ∧ (0x4000#16).toNat < 0x4020 ∧ (0x4000#16 : Addr) ≠ 0x4014#16) ∧
    (0x4000 ≤ (0x401F#16).toNat ∧ (0x401F#16).toNat < 0x4020) ∧
    (0x4020 ≤ (0x4020#16).toNat ∧ 0x4020 ≤ (0x5FFF#16).toNat ∧ (0x5FFF#16).toNat < 0x6000) ∧
    (0x6000 ≤ (0x6000#16).toNat ∧ 0x6000 ≤ (0x7FFF#16).toNat ∧ (0x7FFF#16).toNat < 0x8000) ∧
    (0x8000 ≤ (0x8000#16).toNat ∧ State.reset.cart.prgMap[((0x8000#16).toNat - 0x8000) / 1024]? = some 0) ∧
    State.reset.cart.prgMap[((0xFFFF#16).toNat - 0x8000) / 1024]? = some 31 ∧
    ((0xBFFF#16).toNat < 0xC000 ∧
      (State.reset.setCart { Cartridge.blank with prgMap := (List.range 32).map (fun i => i % 16) }).cart.prgMap =
        (List.range 32).map (fun i => i % 16)) := by decide

theorem witness_OamDma :
    ((0x1F#8).toNat < 0x20 ∨ 0x40 ≤ (0x1F#8).toNat) ∧ ((0x40#8).toNat < 0x20 ∨ 0x40 ≤ (0x40#8).toNat) := by decide

/-- Each register kind; for Status the positions (0, 0), (0, 1), (0, 2) and one beside them. -/
theorem witness_ReadSideEffects :
    ¬inPpuWindow 0x1FFF ∧ ¬inPpuWindow 0x4000 ∧
    (inPpuWindow 0x2004 ∧ (0x2004#16).toNat % 8 = 4) ∧
    (inPpuWindow 0x2000 ∧ (0x2000#16).toNat % 8 ≠ 2 ∧ (0x2000#16).toNat % 8 ≠ 4 ∧ (0x2000#16).toNat % 8 ≠ 7) ∧
    (inPpuWindow 0x3FFA ∧ (0x3FFA#16).toNat % 8 = 2) ∧ (inPpuWindow 0x3FFF ∧ (0x3FFF#16).toNat % 8 = 7) ∧
    (State.reset.ppu.scanline = 0 ∧ State.reset.ppu.dot = 0) ∧
    ((withPpu (ppuAt 0 1 0)).ppu.scanline = 0 ∧ (withPpu (ppuAt 0 1 0)).ppu.dot = 1) ∧
    ((withPpu (ppuAt 0 2 0)).ppu.scanline = 0 ∧ (withPpu (ppuAt 0 2 0)).ppu.dot = 2) ∧
    ((withPpu (ppuAt 0 3 0)).ppu.dot ≠ 0 ∧ (withPpu (ppuAt 0 3 0)).ppu.dot ≠ 1 ∧ (withPpu (ppuAt 0 3 0)).ppu.dot ≠ 2) := by
  unfold inPpuWindow; decide

/-- Addresses with the same index (0x3F10 and 0x3F00, 0x3F00 and 0x3FE0)
        and with another (0x3F11 and 0x3F01); both ends of CHR,
as ROM and as RAM. -/
theorem witness_PaletteAliases :
    0x3F00 ≤ (0x3F10#14).toNat ∧ 0x3F00 ≤ (0x3F00#14).toNat ∧
    ((0x3F10#14).toNat % 4 = 0 ∧ (0x3F00#14).toNat % 4 = 0 ∧ (0x3F10#14).toNat % 16 = (0x3F00#14).toNat % 16) ∧
    (0x3FE0#14).toNat % 32 = (0x3F00#14).toNat % 32 ∧
    ¬((0x3F11#14).toNat % 32 = (0x3F01#14).toNat % 32 ∨
      ((0x3F11#14).toNat % 4 = 0 ∧ (0x3F01#14).toNat % 4 = 0 ∧ (0x3F11#14).toNat % 16 = (0x3F01#14).toNat % 16)) ∧
    ((0x0000#14).toNat < 0x2000 ∧ Cartridge.blank.chrMap[(0x0000#14).toNat / 1024]? = some 0) ∧
    ((0x1FFF#14).toNat < 0x2000 ∧ Cartridge.blank.chrMap[(0x1FFF#14).toNat / 1024]? = some 7) ∧
    Cartridge.blank.chrIsRam = false ∧ { Cartridge.blank with chrIsRam := true }.chrIsRam = true := by
  decide

/-- The ends of the range; horizontal mirroring has 0x2000 and 0x2400 on one page and 0x2800 on another; a four-screen
cartridge has 0x2800 on a stub; 0x3EFF mirrors 0x2EFF. -/
theorem witness_NametableMirroring :
    (0x2000 ≤ (0x2000#14).toNat ∧ (0x2000#14).toNat < 0x3F00 ∧ 0x2000 ≤ (0x3EFF#14).toNat ∧ (0x3EFF#14).toNat < 0x3F00) ∧
    ((0x2000#14).toNat / 0x400 % 4 / 2 = (0x2400#14).toNat / 0x400 % 4 / 2 ∧
      (0x2000#14).toNat % 0x400 = (0x2400#14).toNat % 0x400) ∧
    (0x2000#14).toNat / 0x400 % 4 / 2 ≠ (0x2800#14).toNat / 0x400 % 4 / 2 ∧
    2 ≤ (0x2800#14).toNat / 0x400 % 4 ∧
    ((0x3EFF#14).toNat / 0x400 % 4 = (0x2EFF#14).toNat / 0x400 % 4 ∧ (0x3EFF#14).toNat % 0x400 = (0x2EFF#14).toNat % 0x400) := by
  decide

/-- Inside the suppression window, at its ends; the frame has dots to run. -/
theorem witness_StatusRead :
    (inPpuWindow 0x2002 ∧ (0x2002#16).toNat % 8 = 2) ∧ (inPpuWindow 0x3FFA ∧ (0x3FFA#16).toNat % 8 = 2) ∧
    (State.reset.ppu.scanline = 0 ∧ State.reset.ppu.dot = 0) ∧
    ((withPpu (ppuAt 0 2 0)).ppu.scanline = 0 ∧ (withPpu (ppuAt 0 2 0)).ppu.dot < 3 ∧
      89339 + (withPpu (ppuAt 0 2 0)).ppu.dot < 89342) := by
  unfold inPpuWindow; decide

/-- Each register, with and without the condition of an NMI request. -/
theorem witness_ControlAndOamRegisters :
    (inPpuWindow 0x2000 ∧ (0x2000#16).toNat % 8 = 0) ∧ (inPpuWindow 0x2001 ∧ (0x2001#16).toNat % 8 = 1) ∧
    (inPpuWindow 0x2002 ∧ (0x2002#16).toNat % 8 = 2) ∧ (inPpuWindow 0x3FFB ∧ (0x3FFB#16).toNat % 8 = 3) ∧
    (inPpuWindow 0x3FFC ∧ (0x3FFC#16).toNat % 8 = 4) ∧
    (Ppu.powerOn.ctrl.getLsbD 7 = false ∧ (0x80#8).getLsbD 7 = true ∧ { Ppu.powerOn with vbl := true }.vbl = true) := by
  unfold inPpuWindow; decide

theorem witness_ScrollAndAddressWrites :
    (inPpuWindow 0x2005 ∧ (0x2005#16).toNat % 8 = 5 ∧ State.reset.ppu.w = false) ∧
    (inPpuWindow 0x2005 ∧ (0x2005#16).toNat % 8 = 5 ∧ (withPpu { Ppu.powerOn with w := true }).ppu.w = true) ∧
    (inPpuWindow 0x3FFE ∧ (0x3FFE#16).toNat % 8 = 6 ∧ State.reset.ppu.w = false) ∧
    (inPpuWindow 0x3FFE ∧ (0x3FFE#16).toNat % 8 = 6 ∧ (withPpu { Ppu.powerOn with w := true }).ppu.w = true) := by
  unfold inPpuWindow; decide

/-- The last address below the palette and the first of it. -/
theorem witness_VramData :
    inPpuWindow 0x2007 ∧ (0x2007#16).toNat % 8 = 7 ∧
    (withPpu { Ppu.powerOn with v := 0x3EFF }).ppu.v.toNat % 0x4000 < 0x3F00 ∧
    0x3F00 ≤ (withPpu { Ppu.powerOn with v := 0x3F00 }).ppu.v.toNat % 0x4000 := by
  refine ⟨⟨by decide, by decide⟩, by decide, by decide, by decide⟩

/-- For FrameLength, VblDots, NmiOncePerFrame and FrameDelivered: position (0, 0), in an odd frame with background rendering
and in an even one; a state at the last dot of scanline 260; buffers of their sizes. -/
theorem witness_frames :
    (State.reset.ppu.scanline = 0 ∧ State.reset.ppu.dot = 0 ∧ State.reset.ppu.suppressVbl = false ∧
      ¬(State.reset.ppu.oddFrame = true ∧ State.reset.ppu.bgEnable = true)) ∧
    ((withPpu { ppuAt 0 0 0x08 with oddFrame := true }).ppu.scanline = 0 ∧
      (withPpu { ppuAt 0 0 0x08 with oddFrame := true }).ppu.dot = 0 ∧
      (withPpu { ppuAt 0 0 0x08 with oddFrame := true }).ppu.oddFrame = true ∧
      (withPpu { ppuAt 0 0 0x08 with oddFrame := true }).ppu.bgEnable = true) ∧
    (withPpu (ppuAt 260 340 0)).ppu.scanline = 260 ∧ (withPpu (ppuAt 260 340 0)).ppu.dot = 340 ∧
    ((withPpu { ppuAt 0 0 0 with ctrl := 0x80 }).ppu.ctrl.getLsbD 7 = true ∧
      (withPpu { ppuAt 0 0 0 with ctrl := 0x80 }).ppu.suppressNmi = false) ∧
    (State.reset.ppu.scanlineBuffer.length = 256 ∧ State.reset.ppu.frame.length = 240) :=
  ⟨⟨rfl, rfl, rfl, by decide⟩, ⟨rfl, rfl, rfl, by decide⟩, rfl, rfl, ⟨by decide, rfl⟩, List.length_replicate, List.length_replicate⟩

theorem witness_DotsLeave : State.reset.ppu.rendering = false := by decide

/-- Both ends of the scanlines, at each of the three dots; position (0, 0)
        and the one after; sprite 0 in range on scanline 29 with
Y = 7, out of range with Y = 9; an empty slot and one that is not. -/
theorem witness_SpriteEvaluation :
    (∀ l ∈ [20, 260], ∀ d ∈ [0, 64, 260],
      20 ≤ (withPpu (ppuAt l d 0x10)).ppu.scanline ∧ (withPpu (ppuAt l d 0x10)).ppu.scanline ≤ 260 ∧
        (withPpu (ppuAt l d 0x10)).ppu.dot = d ∧ (withPpu (ppuAt l d 0x10)).ppu.rendering = true) ∧
    spriteInRange { ppuAt 29 64 0x10 with oam := [(0, 7)] } 0 = true ∧
    spriteInRange { ppuAt 29 64 0x10 with oam := [(0, 9)] } 0 = false ∧
    (State.reset.ppu.scanline = 0 ∧ State.reset.ppu.dot = 0 ∧ (withPpu (ppuAt 0 1 0)).ppu.dot ≠ 0) ∧
    (ppuAt 20 260 0x10).sprites[7]? = some SpriteEntry.empty ∧
    (clearSecOam (ppuAt 20 0 0x10)).secOam.read 31 = 0xFF ∧ (ppuAt 20 260 0x10).secOam.read 0 ≠ 0xFF := by
  decide

/-- Coarse-Y 29, 30 and 31; a fetch dot, dot 256, dot 303 of scanline 20, and dot 303 of another, which leaves `v`. -/
theorem witness_AddressIncrements :
    ((0x03A0#15).toNat / 32 % 32 < 30 ∧ (0x03C0#15).toNat / 32 % 32 = 30 ∧ (0x03E0#15).toNat / 32 % 32 = 31) ∧
    (∀ d ∈ [7, 255, 256, 303, 327, 335], 20 ≤ (withPpu (ppuAt 20 d 0x08)).ppu.scanline ∧
      (withPpu (ppuAt 20 d 0x08)).ppu.scanline ≤ 260 ∧ (withPpu (ppuAt 20 d 0x08)).ppu.rendering = true ∧
      (withPpu (ppuAt 20 d 0x08)).ppu.dot = d) ∧
    ((withPpu (ppuAt 21 303 0x08)).ppu.scanline ≠ 20 ∧ (withPpu (ppuAt 21 303 0x08)).ppu.dot % 8 = 7 ∧
      256 < (withPpu (ppuAt 21 303 0x08)).ppu.dot ∧ (withPpu (ppuAt 21 303 0x08)).ppu.dot < 320) := by decide

/-- The first and last reload and batch of each fetch region, and dots outside. -/
theorem witness_FetchBatch :
    (∀ d ∈ [0, 7, 248, 255, 320, 327, 328, 335], 20 ≤ (withPpu (ppuAt 260 d 0x08)).ppu.scanline ∧
      (withPpu (ppuAt 260 d 0x08)).ppu.scanline ≤ 260 ∧ (withPpu (ppuAt 260 d 0x08)).ppu.rendering = true ∧
      ((withPpu (ppuAt 260 d 0x08)).ppu.dot < 256 ∨
        (320 ≤ (withPpu (ppuAt 260 d 0x08)).ppu.dot ∧ (withPpu (ppuAt 260 d 0x08)).ppu.dot < 336)) ∧
      ((withPpu (ppuAt 260 d 0x08)).ppu.dot % 8 = 0 ∨ (withPpu (ppuAt 260 d 0x08)).ppu.dot % 8 = 7)) ∧
    (∀ d ∈ [256, 319, 336], ¬((withPpu (ppuAt 260 d 0x08)).ppu.dot < 256 ∨
      (320 ≤ (withPpu (ppuAt 260 d 0x08)).ppu.dot ∧ (withPpu (ppuAt 260 d 0x08)).ppu.dot < 336))) := by
  decide

/-- For RequestPriority, ResetService, NmiService and IrqService: each thing that can be pending, and I clear. -/
theorem witness_pending :
    State.reset.pending = .none ∧ (State.reset.setPending .irq).pending = .irq ∧
    (State.reset.setPending .nmi).pending = .nmi ∧ (State.reset.setPending .reset).pending = .reset ∧
    flagI ((State.reset.setPending .irq).setP 0x20).p = false := by
  decide

theorem witness_OperandRead :
    (Instr.ldaImm 0xFF).operand = .imm 0xFF ∧
    ((effectiveAddr (.ldaAbsx 0xFFFF) State.reset).ea = some 0xFFFF ∧ (∀ v, (Instr.ldaAbsx 0xFFFF).operand ≠ .imm v) ∧
      (Instr.ldaAbsx 0xFFFF).mnemonic ≠ .jmp) :=
  ⟨rfl, by decide, fun v h => Operand.noConfusion h, by decide⟩

/-- For the statements about read-type instructions: one of each mnemonic. -/
theorem witness_reads :
    (Instr.ldaAbs 0x2002).mnemonic = .lda ∧ (Instr.ldxZpy 0xFF).mnemonic = .ldx ∧ (Instr.ldyImm 0).mnemonic = .ldy ∧
    (Instr.laxIndy 0xFF).mnemonic = .lax ∧ (Instr.adcIndx 0xFF).mnemonic = .adc ∧ (Instr.sbcImm 0xFF).mnemonic = .sbc ∧
    (Instr.usbc 0xFF).mnemonic = .usbc ∧ (Instr.andZp 0).mnemonic = .and ∧ (Instr.oraAbsx 0).mnemonic = .ora ∧
    (Instr.eorAbsy 0xFFFF).mnemonic = .eor ∧ (Instr.bitAbs 0).mnemonic = .bit ∧
    ((Instr.cmpImm 0).mnemonic, State.reset.a)
        ∈ [(Mnemonic.cmp, State.reset.a), (.cpx, State.reset.x), (.cpy, State.reset.y)] ∧
    ((Instr.cpxImm 0).mnemonic, State.reset.x)
        ∈ [(Mnemonic.cmp, State.reset.a), (.cpx, State.reset.x), (.cpy, State.reset.y)] ∧
    ((Instr.cpyImm 0).mnemonic, State.reset.y)
        ∈ [(Mnemonic.cmp, State.reset.a), (.cpx, State.reset.x), (.cpy, State.reset.y)] := by
  decide

/-- For StoreResult: each mnemonic, at RAM's last address, the DMA port and the last address. -/
theorem witness_StoreResult :
    (((Instr.staAbs 0x4014).mnemonic, State.reset.a) ∈ [(Mnemonic.sta, State.reset.a), (.stx, State.reset.x),
        (.sty, State.reset.y), (.sax, State.reset.a &&& State.reset.x)] ∧
      (effectiveAddr (.staAbs 0x4014) State.reset).ea = some 0x4014) ∧
    (((Instr.stxAbs 0x1FFF).mnemonic, State.reset.x) ∈ [(Mnemonic.sta, State.reset.a), (.stx, State.reset.x),
        (.sty, State.reset.y), (.sax, State.reset.a &&& State.reset.x)] ∧
      (effectiveAddr (.stxAbs 0x1FFF) State.reset).ea = some 0x1FFF) ∧
    (((Instr.styAbs 0xFFFF).mnemonic, State.reset.y) ∈ [(Mnemonic.sta, State.reset.a), (.stx, State.reset.x),
        (.sty, State.reset.y), (.sax, State.reset.a &&& State.reset.x)] ∧
      (effectiveAddr (.styAbs 0xFFFF) State.reset).ea = some 0xFFFF) ∧
    (((Instr.saxZp 0xFF).mnemonic, State.reset.a &&& State.reset.x) ∈ [(Mnemonic.sta, State.reset.a), (.stx, State.reset.x),
        (.sty, State.reset.y), (.sax, State.reset.a &&& State.reset.x)] ∧
      (effectiveAddr (.saxZp 0xFF) State.reset).ea = some 0x00FF) := by
  decide

theorem witness_DecimalIgnored :
    (Instr.adcImm 0xFF).mnemonic ≠ .php ∧ (Instr.adcImm 0xFF).mnemonic ≠ .brk ∧
      ∃ t, exec (.adcImm 0xFF) State.reset = .next t := ⟨by decide, by decide, exec_next _ _⟩

/-- For ShiftAccumulator: the four forms at A = 0 in the reset state. -/
theorem witness_ShiftAccumulator :
    (0 = 2 * State.reset.a.toNat % 256 ∧ false = decide (128 ≤ State.reset.a.toNat)) ∧
    (0 = State.reset.a.toNat / 2 ∧ false = decide (State.reset.a.toNat % 2 = 1)) ∧
    (0 = (2 * State.reset.a.toNat + (flagC State.reset.p).toNat) % 256) ∧
    (0 = State.reset.a.toNat / 2 + 128 * (flagC State.reset.p).toNat) := by
  decide

/-- For ModifyResult, CombinedLogicResult and CombinedArithmeticResult: each mnemonic, with an effective address in RAM, in the
PPU window, at the DMA port and in PRG ROM; the byte there is 0. -/
theorem witness_modifies :
    ((effectiveAddr (.aslAbs 0x1FFF) State.reset).ea = some 0x1FFF ∧ (Instr.aslAbs 0x1FFF).mnemonic = .asl) ∧
    ((effectiveAddr (.lsrAbs 0x2002) State.reset).ea = some 0x2002 ∧ (Instr.lsrAbs 0x2002).mnemonic = .lsr) ∧
    ((effectiveAddr (.rolAbs 0x4014) State.reset).ea = some 0x4014 ∧ (Instr.rolAbs 0x4014).mnemonic = .rol) ∧
    ((effectiveAddr (.rorAbs 0xFFFF) State.reset).ea = some 0xFFFF ∧ (Instr.rorAbs 0xFFFF).mnemonic = .ror) ∧
    ((effectiveAddr (.incZp 0xFF) State.reset).ea = some 0x00FF ∧ (Instr.incZp 0xFF).mnemonic = .inc) ∧
    ((effectiveAddr (.decAbsx 0) State.reset).ea = some 0 ∧ (Instr.decAbsx 0).mnemonic = .dec) ∧
    ((effectiveAddr (.dcpIndx 0) State.reset).ea = some 0 ∧ (Instr.dcpIndx 0).mnemonic = .dcp) ∧
    ((effectiveAddr (.sloIndy 0) State.reset).ea = some 0 ∧ (Instr.sloIndy 0).mnemonic = .slo) ∧
    ((effectiveAddr (.rlaAbsy 0x6000) State.reset).ea = some 0x6000 ∧ (Instr.rlaAbsy 0x6000).mnemonic = .rla) ∧
    ((effectiveAddr (.sreAbsx 0x7FFF) State.reset).ea = some 0x7FFF ∧ (Instr.sreAbsx 0x7FFF).mnemonic = .sre) ∧
    ((effectiveAddr (.iscZpx 0xFF) State.reset).ea = some 0x00FF ∧ (Instr.iscZpx 0xFF).mnemonic = .isc) ∧
    ((effectiveAddr (.rraAbs 0x3FFF) State.reset).ea = some 0x3FFF ∧ (Instr.rraAbs 0x3FFF).mnemonic = .rra) := by
  decide

/-- For BranchResult: a branch not taken and one taken. -/
theorem witness_BranchResult :
    (Instr.bmi 0x80, false) ∈ [(Instr.bpl 0x80, !flagN State.reset.p), (.bmi 0x80, flagN State.reset.p),
      (.bvc 0x80, !flagV State.reset.p), (.bvs 0x80, flagV State.reset.p), (.bcc 0x80, !flagC State.reset.p),
      (.bcs 0x80, flagC State.reset.p), (.bne 0x80, !flagZ State.reset.p), (.beq 0x80, flagZ State.reset.p)] ∧
    (Instr.bne 0x7F, true) ∈ [(Instr.bpl 0x7F, !flagN State.reset.p), (.bmi 0x7F, flagN State.reset.p),
      (.bvc 0x7F, !flagV State.reset.p), (.bvs 0x7F, flagV State.reset.p), (.bcc 0x7F, !flagC State.reset.p),
      (.bcs 0x7F, flagC State.reset.p), (.bne 0x7F, !flagZ State.reset.p), (.beq 0x7F, flagZ State.reset.p)] := by
  decide

theorem witness_FlagResult :
    (Instr.clc, 0, false) ∈ [(Instr.clc, 0, false), (.sec, 0, true), (.cli, 2, false), (.sei, 2, true), (.cld, 3, false),
      (.sed, 3, true), (.clv, 6, false)] := by decide

theorem witness_UnofficialNopResult :
    ((Instr.dop80 0xFF).mnemonic = .dop ∧ (effectiveAddr (.dop80 0xFF) State.reset).ea = some 0xFFFF) ∧
    ((Instr.top1C 0x2002).mnemonic = .top ∧ (effectiveAddr (.top1C 0x2002) State.reset).ea = some 0x2002) ∧
    Instr.nop1xFA.mnemonic = .nop1 ∧ Instr.unl93.mnemonic = .unl := by
  decide

end Sys2Proof.Tests
end

/-! Proofs of the statements about the state (spec/10_state.md): the invariant of every step, the cartridge's frame, bit 5 of
P, the stack, and the machine after power-on and reset. -/

namespace Sys2Proof.Machine

/-! The invariant under writes to one memory -/

theorem Memory.good_write {n : Nat} {m : Memory} {a : Nat} (v : Byte) (ha : a < n) (h : m.good n) : (m.write a v).good n :=
  ⟨Memory.wf_write a v h.1, Memory.below_write v ha h.2⟩

/-- A valid bank map names a bank below the bank count at every slot (R55). -/
theorem getD_lt_of_all {l : List Nat} {n i : Nat} (h : l.all (fun b => decide (b < n)) = true) (hi : i < l.length) :
    l.getD i 0 < n := by
  rw [List.getD_eq_getElem _ _ hi]
  simpa using List.all_eq_true.1 h _ (List.getElem_mem hi)

theorem Cartridge.Inv.chrKey_lt {c : Cartridge} (h : c.Inv) (a : PpuAddr) : c.chrKey a < 1024 * c.chrBanks := by
  have hb := getD_lt_of_all (i := a.toNat % 0x2000 / 1024) h.chrMap_valid (by rw [h.chrMap_length]; omega)
  rw [Cartridge.chrKey]
  omega

theorem writeChr_inv {c : Cartridge} (h : c.Inv) (a : PpuAddr) (v : Byte) : (c.writeChr a v).Inv := by
  unfold Cartridge.writeChr
  split
  · exact { h with chr_good := Memory.good_write v (h.chrKey_lt a) h.chr_good }
  · exact h

theorem writePrg_inv {c : Cartridge} (h : c.Inv) (a : Addr) (v : Byte) : (c.writePrg a v).Inv := by
  unfold Cartridge.writePrg
  split
  · exact { h with prgRam_good := Memory.good_write v (Nat.mod_lt _ (by decide)) h.prgRam_good }
  · exact h

theorem writeNametable_inv (c : Cartridge) {p : Ppu} (h : p.Inv) (a : PpuAddr) (v : Byte) : (writeNametable c p a v).Inv := by
  have hk : a.toNat % 1024 < 0x400 := Nat.mod_lt _ (by decide)
  unfold writeNametable
  split
  · exact { h with ntA_good := Memory.good_write v hk h.ntA_good }
  · exact { h with ntB_good := Memory.good_write v hk h.ntB_good }
  · exact h
  · exact h

/-- A folded palette index is not folded again (R109). -/
theorem palIndex_idem (a : Nat) : palIndex (palIndex a) = palIndex a := by
  unfold palIndex
  split <;> split <;> omega

theorem writePalette_inv {p : Ppu} (h : p.Inv) (a : Nat) (v : Byte) :
    ({ p with palette := p.palette.write (palIndex a) v } : Ppu).Inv := by
  refine { h with palette_wf := Memory.wf_write _ v h.palette_wf, palette_keys := List.all_eq_true.2 fun c hc => ?_ }
  rcases Memory.mem_write hc with rfl | hc
  · exact beq_iff_eq.2 (palIndex_idem a)
  · exact List.all_eq_true.1 h.palette_keys c hc

theorem ppuWrite_inv {c : Cartridge} {p : Ppu} (hc : c.Inv) (hp : p.Inv) (a : PpuAddr) (v : Byte) :
    (ppuWrite c p a v).1.Inv ∧ (ppuWrite c p a v).2.Inv := by
  unfold ppuWrite
  split
  · exact ⟨writeChr_inv hc a v, hp⟩
  split
  · exact ⟨hc, writeNametable_inv c hp a v⟩
  · exact ⟨hc, writePalette_inv hp _ v⟩

/-! The invariant under the accesses of the CPU -/

theorem State.Inv.setPpu {s : State} (h : s.Inv) {p : Ppu} (hp : p.Inv) : (s.setPpu p).Inv := { h with ppu := hp }

theorem State.Inv.setCart {s : State} (h : s.Inv) {c : Cartridge} (hc : c.Inv) : (s.setCart c).Inv := { h with cart := hc }

theorem State.Inv.setPending {s : State} (h : s.Inv) (q : Pending) : (s.setPending q).Inv := { h with }

theorem raiseNmi_inv {s : State} (h : s.Inv) : (raiseNmi s).Inv := h.setPending _

theorem busRead_inv (a : Addr) {s : State} (h : s.Inv) : (busRead a s).2.Inv := by
  obtain ⟨b1, b2, b3, b4, rb, v, k, heq⟩ := busRead_changes a s
  rw [heq]
  exact { h with ppu := { h.ppu with } }

theorem writeOamData_inv (v : Byte) {s : State} (h : s.Inv) : (writeOamData v s).Inv :=
  h.setPpu { h.ppu with oam_good := Memory.good_write v s.ppu.oamAddr.isLt h.ppu.oam_good }

theorem writeVramData_inv (v : Byte) {s : State} (h : s.Inv) : (writeVramData v s).Inv := by
  obtain ⟨hc, hp⟩ := ppuWrite_inv h.cart h.ppu s.ppu.vAddr v
  exact (h.setCart hc).setPpu { hp with }

theorem writeCtrl_inv (v : Byte) {s : State} (h : s.Inv) : (writeCtrl v s).Inv := by
  unfold writeCtrl
  dsimp only
  split
  · exact raiseNmi_inv (h.setPpu { h.ppu with })
  · exact h.setPpu { h.ppu with }

theorem writeScroll_inv (v : Byte) {s : State} (h : s.Inv) : (writeScroll v s).Inv := by
  unfold writeScroll
  dsimp only
  split <;> exact h.setPpu { h.ppu with }

theorem writeVramAddr_inv (v : Byte) {s : State} (h : s.Inv) : (writeVramAddr v s).Inv := by
  unfold writeVramAddr
  dsimp only
  split <;> exact h.setPpu { h.ppu with }

theorem writeRegister_inv (i : Nat) (v : Byte) {s : State} (h : s.Inv) : (writeRegister i v s).Inv := by
  unfold writeRegister
  split
  · exact writeCtrl_inv v h
  split
  · exact h.setPpu { h.ppu with }
  split
  · exact h
  split
  · exact h.setPpu { h.ppu with }
  split
  · exact writeOamData_inv v h
  split
  · exact writeScroll_inv v h
  split
  · exact writeVramAddr_inv v h
  · exact writeVramData_inv v h

theorem dmaTransfer_inv (n : Nat) (a : Addr) {s : State} (h : s.Inv) : (dmaTransfer n a s).Inv := by
  induction n generalizing a s with
  | zero => exact h
  | succ n ih => exact ih (a + 1) (writeRegister_inv 4 _ (busRead_inv a h))

theorem busWrite_inv (a : Addr) (v : Byte) {s : State} (h : s.Inv) : (busWrite a v s).2.Inv := by
  unfold busWrite
  split
  · exact { h with ram_good := Memory.good_write v (Nat.mod_lt _ (by decide)) h.ram_good }
  split
  · exact writeRegister_inv _ v h
  split
  · dsimp only
    exact dmaTransfer_inv _ _ h
  split
  · exact h
  · exact h.setCart (writePrg_inv h.cart a v)

theorem inv_stable : Stable State.Inv where
  setA _ h := { h with }
  setX _ h := { h with }
  setY _ h := { h with }
  setSp _ h := { h with }
  setPc _ h := { h with }
  setCycles _ h := { h with }
  setP _ hv h := { h with bit5 := hv h.bit5 }
  read a h := busRead_inv a h
  write a v h := busWrite_inv a v h

/-! The invariant under a dot of the PPU -/

theorem vblankStart_inv {p : Ppu} (h : p.Inv) : (vblankStart p).Inv where
  __ := h
  sprites_length := (List.length_map _).trans h.sprites_length
  sprites_zero := by
    rw [vblankStart, ← List.map_drop, List.all_map]
    exact h.sprites_zero

theorem flagActions_inv {p : Ppu} (h : p.Inv) : (flagActions p).Inv := by
  unfold flagActions
  split
  · exact vblankStart_inv h
  split
  · exact { h with }
  split
  · exact { h with }
  split
  · exact { h with scanlineBuffer_length := List.length_replicate }
  · exact h

theorem clearSecOam_inv {p : Ppu} (h : p.Inv) : (clearSecOam p).Inv :=
  { h with secOam_good := (by constructor <;> decide : clearedSecOam.good 32) }

theorem copySprite_inv {p : Ppu} (h : p.Inv) (i : Nat) {n : Nat} (hn : n < 8) : (copySprite p i n).Inv where
  __ := h
  secOam_good :=
    Memory.good_write _ (by omega) (Memory.good_write _ (by omega) (Memory.good_write _ (by omega)
      (Memory.good_write _ (by omega) h.secOam_good)))

theorem evaluateFrom_inv (k n : Nat) {p : Ppu} (h : p.Inv) : (evaluateFrom k n p).Inv := by
  induction k generalizing n p with
  | zero => exact h
  | succ k ih =>
    unfold evaluateFrom
    split
    · split
      · exact ih _ (copySprite_inv h _ ‹_›)
      · exact { h with }
    · exact ih _ h

theorem fetchFrom_length (c : Cartridge) (p : Ppu) (k : Nat) (es : List SpriteEntry) :
    (fetchFrom c p k es).length = es.length := by
  induction es generalizing k with
  | nil => rfl
  | cons e es ih => exact congrArg (· + 1) (ih (k + 1))

/-- Beyond slot 0 the fetch gives no entry that holds sprite 0 where there was none (R377). -/
theorem fetchSprite_isSpriteZero (c : Cartridge) (p : Ppu) {k : Nat} (hk : k ≠ 0) {e : SpriteEntry}
    (he : e.isSpriteZero = false) : (fetchSprite c p k e).isSpriteZero = false := by
  unfold fetchSprite
  dsimp only
  split
  · exact he
  · simp [hk]

theorem fetchFrom_zero (c : Cartridge) (p : Ppu) {k : Nat} (hk : k ≠ 0) {es : List SpriteEntry}
    (h : es.all (fun e => !e.isSpriteZero) = true) : (fetchFrom c p k es).all (fun e => !e.isSpriteZero) = true := by
  induction es generalizing k with
  | nil => rfl
  | cons e es ih =>
    simp only [List.all_cons, Bool.and_eq_true, Bool.not_eq_true'] at h
    simp only [fetchFrom, List.all_cons, Bool.and_eq_true, Bool.not_eq_true']
    exact ⟨fetchSprite_isSpriteZero c p hk h.1, ih (Nat.succ_ne_zero k) h.2⟩

theorem fetchSprites_inv (c : Cartridge) {p : Ppu} (h : p.Inv) : (fetchSprites c p).Inv where
  __ := h
  sprites_length := (fetchFrom_length c p 0 p.sprites).trans h.sprites_length
  sprites_zero := by
    have hz := h.sprites_zero
    unfold fetchSprites
    cases hs : p.sprites with
    | nil => rfl
    | cons e es =>
      rw [hs] at hz
      exact fetchFrom_zero c p Nat.one_ne_zero hz

theorem spriteActions_inv (c : Cartridge) {p : Ppu} (h : p.Inv) : (spriteActions c p).Inv := by
  unfold spriteActions
  split
  · split
    · exact clearSecOam_inv h
    split
    · exact evaluateFrom_inv 64 0 h
    split
    · exact fetchSprites_inv c h
    · exact h
  · exact h

theorem reloadAction_inv {p : Ppu} (h : p.Inv) : (reloadAction p).Inv := by
  unfold reloadAction
  split
  · exact { h with }
  · exact h

theorem pixelAction_inv {p : Ppu} (h : p.Inv) : (pixelAction p).Inv := by
  unfold pixelAction
  split
  · exact { h with scanlineBuffer_length := List.length_set.trans h.scanlineBuffer_length }
  · exact h

theorem shiftAction_inv {p : Ppu} (h : p.Inv) : (shiftAction p).Inv := by
  unfold shiftAction
  split
  · exact { h with }
  · exact h

theorem fetchAction_inv (c : Cartridge) {p : Ppu} (h : p.Inv) : (fetchAction c p).Inv := by
  unfold fetchAction
  split
  · exact { h with }
  · exact h

theorem frameShape_iff {f : List (List Rgb)} : frameShape f = true ↔ f.length = 240 ∧ ∀ row ∈ f, row.length = 256 := by
  simp [frameShape]

theorem frameShape_set {f : List (List Rgb)} {row : List Rgb} (i : Nat) (hr : row.length = 256) (h : frameShape f = true) :
    frameShape (f.set i row) = true := by
  rw [frameShape_iff] at h ⊢
  refine ⟨List.length_set.trans h.1, fun r hmem => ?_⟩
  rcases List.mem_or_eq_of_mem_set hmem with hold | rfl
  · exact h.2 r hold
  · exact hr

theorem outputRow_inv {p : Ppu} (h : p.Inv) : (outputRow p).Inv :=
  { h with frame_shape := frameShape_set _ ((List.length_map _).trans h.scanlineBuffer_length) h.frame_shape }

theorem outputRow_ifVisible_inv {p : Ppu} (h : p.Inv) : (if p.visibleLine = true then outputRow p else p).Inv := by
  split
  · exact outputRow_inv h
  · exact h

theorem dot256_inv {p : Ppu} (h : p.Inv) : (dot256 p).Inv := by
  apply outputRow_ifVisible_inv
  split
  · exact { h with }
  · exact h

theorem lateActions_inv {p : Ppu} (h : p.Inv) : (lateActions p).Inv := by
  unfold lateActions
  split
  · exact dot256_inv h
  split
  · exact { h with }
  split
  · exact { h with lastFrame_shape := h.frame_shape }
  · exact h

theorem dotActions_inv (c : Cartridge) {p : Ppu} (h : p.Inv) : (dotActions c p).Inv :=
  lateActions_inv (fetchAction_inv c (shiftAction_inv (pixelAction_inv (reloadAction_inv (spriteActions_inv c
    (flagActions_inv h))))))

/-- The next position lies on the grid (R45, R351). -/
theorem advanceDot_inv {p : Ppu} (h : p.Inv) : (advanceDot p).Inv := by
  have hl : p.lineLength ≤ 341 := by unfold Ppu.lineLength; split <;> omega
  have hy := h.scanline_lt
  unfold advanceDot
  split
  · exact { h with dot_lt := by dsimp only; omega }
  split
  · exact { h with scanline_lt := by dsimp only; omega, dot_lt := by dsimp only; omega }
  · exact { h with scanline_lt := by dsimp only; omega, dot_lt := by dsimp only; omega }

theorem executeDot_inv {s : State} (h : s.Inv) : (executeDot s).Inv := by
  have hs1 := h.setPpu (advanceDot_inv (dotActions_inv s.cart h.ppu))
  unfold executeDot
  dsimp only
  split
  · exact raiseNmi_inv hs1
  · exact hs1

/-- Settles O9: the operations of the CPU, the change of the latch and a dot of the PPU each keep the invariant. -/
theorem stepKeepsInv : Obligations.StepKeepsInv := fun _ _ hs he =>
  step_stable inv_stable (fun q h => h.setPending q) executeDot_inv hs he

/-! The invariant after reset -/

theorem Memory.good_nil (n : Nat) : Memory.good n [] := ⟨rfl, rfl⟩

theorem powerOn_inv : Ppu.powerOn.Inv where
  scanline_lt := by decide
  dot_lt := by decide
  ntA_good := Memory.good_nil _
  ntB_good := Memory.good_nil _
  palette_wf := rfl
  palette_keys := rfl
  oam_good := Memory.good_nil _
  secOam_good := Memory.good_nil _
  sprites_length := rfl
  sprites_zero := rfl
  scanlineBuffer_length := List.length_replicate
  frame_shape := frameShape_iff.2 ⟨List.length_replicate, fun _ h => by rw [List.eq_of_mem_replicate h, List.length_replicate]⟩
  lastFrame_shape := rfl

theorem blank_inv : Cartridge.blank.Inv where
  prgBanks_pos := by decide
  chrBanks_pos := by decide
  prgMap_length := List.length_range
  chrMap_length := List.length_range
  prgMap_valid := by decide
  chrMap_valid := by decide
  prgRom_good := Memory.good_nil _
  prgRam_good := Memory.good_nil _
  chr_good := Memory.good_nil _

/-- Settles O10: the PPU after power-on and the blank cartridge meet their invariants. -/
theorem resetInv : Obligations.ResetInv :=
  { bit5 := by decide, ram_good := Memory.good_nil _, ppu := powerOn_inv, cart := blank_inv }

/-! What no step changes of the cartridge -/

/-- `d` is `c` but for PRG RAM and, where CHR is RAM, CHR memory (R87, R89, R90). -/
structure Cartridge.Frame (c d : Cartridge) : Prop where
  prgRom : d.prgRom = c.prgRom
  prgBanks : d.prgBanks = c.prgBanks
  chrBanks : d.chrBanks = c.chrBanks
  prgMap : d.prgMap = c.prgMap
  chrMap : d.chrMap = c.chrMap
  mirroring : d.mirroring = c.mirroring
  chrIsRam : d.chrIsRam = c.chrIsRam
  prgRamSize : d.prgRamSize = c.prgRamSize
  chr : c.chrIsRam = false → d.chr = c.chr

theorem Cartridge.Frame.refl (c : Cartridge) : c.Frame c := by constructor <;> intros <;> rfl

theorem Cartridge.Frame.trans {c d e : Cartridge} (h : c.Frame d) (k : d.Frame e) : c.Frame e where
  prgRom := k.prgRom.trans h.prgRom
  prgBanks := k.prgBanks.trans h.prgBanks
  chrBanks := k.chrBanks.trans h.chrBanks
  prgMap := k.prgMap.trans h.prgMap
  chrMap := k.chrMap.trans h.chrMap
  mirroring := k.mirroring.trans h.mirroring
  chrIsRam := k.chrIsRam.trans h.chrIsRam
  prgRamSize := k.prgRamSize.trans h.prgRamSize
  chr hrom := (k.chr (h.chrIsRam.trans hrom)).trans (h.chr hrom)

theorem writePrg_frame (c : Cartridge) (a : Addr) (v : Byte) : c.Frame (c.writePrg a v) := by
  unfold Cartridge.writePrg
  split
  · constructor <;> intros <;> rfl
  · exact .refl c

theorem writeChr_frame (c : Cartridge) (a : PpuAddr) (v : Byte) : c.Frame (c.writeChr a v) := by
  cases hram : c.chrIsRam with
  | false =>
    rw [Cartridge.writeChr, if_neg (by rw [hram]; decide)]
    exact .refl c
  | true =>
    rw [Cartridge.writeChr, if_pos hram]
    exact { Cartridge.Frame.refl c with chr := fun hrom => absurd (hram.symm.trans hrom) (by decide) }

theorem ppuWrite_cart (c : Cartridge) (p : Ppu) (a : PpuAddr) (v : Byte) :
    (ppuWrite c p a v).1 = c ∨ (ppuWrite c p a v).1 = c.writeChr a v := by
  unfold ppuWrite
  split
  · exact .inr rfl
  split <;> exact .inl rfl

/-- The cartridge after a write to a PPU register: only register 7 can reach it, through CHR memory (R90, R330). -/
theorem writeRegister_cart (i : Nat) (v : Byte) (s : State) :
    (writeRegister i v s).cart = s.cart ∨ (writeRegister i v s).cart = s.cart.writeChr s.ppu.vAddr v := by
  unfold writeRegister
  split
  · unfold writeCtrl
    dsimp only
    split <;> exact .inl rfl
  split
  · exact .inl rfl
  split
  · exact .inl rfl
  split
  · exact .inl rfl
  split
  · exact .inl rfl
  split
  · unfold writeScroll
    dsimp only
    split <;> exact .inl rfl
  split
  · unfold writeVramAddr
    dsimp only
    split <;> exact .inl rfl
  · exact ppuWrite_cart s.cart s.ppu s.ppu.vAddr v

/-- The cartridge after a bus write (R71, R89, R90). -/
theorem busWrite_cart (a : Addr) (v : Byte) (s : State) :
    (busWrite a v s).2.cart = s.cart ∨ (busWrite a v s).2.cart = s.cart.writeChr s.ppu.vAddr v ∨
      (busWrite a v s).2.cart = s.cart.writePrg a v := by
  unfold busWrite
  split
  · exact .inl rfl
  split
  · exact (writeRegister_cart _ v s).imp_right .inl
  split
  · obtain ⟨u, k, heq⟩ := dmaTransfer_changes 256 (word16 v 0) s
    exact .inl (by rw [heq])
  split
  · exact .inl rfl
  · exact .inr (.inr rfl)

theorem busWrite_cartFrame (a : Addr) (v : Byte) (s : State) : s.cart.Frame (busWrite a v s).2.cart := by
  rcases busWrite_cart a v s with heq | heq | heq <;> rw [heq]
  · exact .refl _
  · exact writeChr_frame _ _ v
  · exact writePrg_frame _ a v

theorem cartFrame_stable (c : Cartridge) : Stable (fun s => c.Frame s.cart) where
  setA _ h := h
  setX _ h := h
  setY _ h := h
  setSp _ h := h
  setPc _ h := h
  setCycles _ h := h
  setP _ _ h := h
  read {s} a h := by
    obtain ⟨-, -, -, -, hc⟩ := busRead_registers a s
    rw [hc]
    exact h
  write a v h := h.trans (busWrite_cartFrame a v _)

theorem executeDot_cart (s : State) : (executeDot s).cart = s.cart := by rw [executeDot_eq]

/-- A step keeps the cartridge but for PRG RAM and CHR RAM (R87, R89, R90). -/
theorem step_cartFrame {s t : State} (he : step s = .next t) : s.cart.Frame t.cart :=
  step_stable (cartFrame_stable s.cart) (fun _ h => h) (fun {u} h => by rw [executeDot_cart u]; exact h) (.refl s.cart) he

/-- Settles O12: a bus write reaches the cartridge through PRG RAM and CHR memory alone, and CHR memory only where it is
RAM; no other operation of a step changes the cartridge. -/
theorem stepKeepsCartridge : Obligations.StepKeepsCartridge := fun _ _ he =>
  have h := step_cartFrame he
  ⟨h.prgRom, h.prgBanks, h.chrBanks, h.prgMap, h.chrMap, h.mirroring, h.chrIsRam, h.prgRamSize, h.chr⟩

/-! The stack -/

/-- A read in page 1 (R27, R70). -/
theorem busRead_stack (sp : Byte) (s : State) : busRead (stackAddr sp) s = (s.ram.read (256 + sp.toNat), s) := by
  rw [busRead_ram (stackAddr_lt sp), stackKey]

/-- A pop reads page 1 at the incremented S and changes S alone (R27). -/
theorem pop_eq_busRead (s : State) : pop s = ((busRead (stackAddr (s.sp + 1)) s).1, s.setSp (s.sp + 1)) := by
  rw [pop_eq, busRead_stack]

/-- The byte popped by an instruction, its base cycles credited, is the one that memory holds before it (R27, R160). -/
theorem pop_credit_fst (op : Byte) (s : State) : (pop (s.credit op)).1 = (busRead (stackAddr (s.sp + 1)) s).1 := by
  rw [pop_eq, busRead_stack]
  rfl

theorem stackAddr_eq_ofNat {n : Nat} (b : Byte) (h : b.toNat = n) : BitVec.ofNat 16 (0x100 + n) = stackAddr b := by
  have := b.isLt
  apply BitVec.eq_of_toNat_eq
  rw [BitVec.toNat_ofNat, stackAddr_toNat]
  omega

/-- A push replaces the bytes that reach its stack address and no other (R27, R72). -/
theorem push_sameBytesBut (v : Byte) (s : State) : SameBytesBut (storedBytes (stackAddr s.sp)) s (push v s) := by
  obtain ⟨-, hbytes⟩ := busWrite_bytes (stackAddr s.sp) v s
  intro a ha hs
  rw [← hbytes a ha hs]
  exact busRead_value ha rfl rfl

theorem busRead_push_same (v : Byte) (s : State) : (busRead (stackAddr s.sp) (push v s)).1 = v := by
  rw [busRead_stack, push_eq]
  exact Memory.read_write_same _ _ v

/-- A pop takes back what a push stored (R27). -/
theorem pop_push (v : Byte) (s : State) : pop (push v s) = (v, (push v s).setSp s.sp) := by
  have hsp : (push v s).sp + 1 = s.sp := by rw [push_eq, State.setSp_sp, BitVec.sub_add_cancel]
  rw [pop_eq_busRead, hsp, busRead_push_same]

/-- Settles O18: a push and a pop as one access of page 1 each, S wrapping with the byte's arithmetic. -/
theorem stackPushPop : Obligations.StackPushPop := by
  intro v s
  have hpush := stackAddr_eq_ofNat s.sp rfl
  have hpop : BitVec.ofNat 16 (0x100 + (s.sp.toNat + 1) % 256) = stackAddr (s.sp + 1) :=
    stackAddr_eq_ofNat (s.sp + 1) (BitVec.toNat_add s.sp 1)
  refine ⟨?_, ?_, ?_, ⟨_, push_eq v s⟩, ?_, pop_push v s⟩
  · rw [hpush, busRead_push_same]
  · rw [push_eq, State.setSp_sp, BitVec.toNat_sub]
    simp [Nat.add_comm]
  · rw [hpush]
    exact push_sameBytesBut v s
  · rw [hpop]
    exact pop_eq_busRead s

/-! The vectors and power-on -/

/-- A vector outside the PPU window is read without a side effect (R85). -/
theorem busRead16_vector {v : Addr} (h0 : ¬inPpuWindow v) (h1 : ¬inPpuWindow (v + 1)) (s : State) :
    busRead16 v (v + 1) s = (vectorWord v s, s) := busRead16_plain h0 h1 s

theorem vectorWord_congr {v : Addr} (h0 : ¬inPpuWindow v) (h1 : ¬inPpuWindow (v + 1)) {s t : State} (hr : t.ram = s.ram)
    (hc : t.cart = s.cart) : vectorWord v t = vectorWord v s := by
  rw [vectorWord, vectorWord, busRead_value h0 hr hc, busRead_value h1 hr hc]

theorem resetVector_plain : ¬inPpuWindow 0xFFFC ∧ ¬inPpuWindow (0xFFFC + 1) :=
  ⟨fun h => absurd h.2 (by decide), fun h => absurd h.2 (by decide)⟩

/-- Everything power-on does (R32, R440). -/
theorem initMachine_eq (s : State) :
    initMachine s = { s with
      a := 0, x := 0, y := 0, sp := 0xFF, p := 0x34, pc := vectorWord 0xFFFC (s.setCart s.cart.initMaps), opCycles := 7
      pending := .none, ppu := s.ppu.reinit, cart := s.cart.initMaps } := by
  obtain ⟨h0, h1⟩ := resetVector_plain
  have hread (t : State) : busRead16 0xFFFC 0xFFFD t = (vectorWord 0xFFFC t, t) := busRead16_vector h0 h1 t
  unfold initMachine
  simp only [hread]
  rw [vectorWord_congr h0 h1 (s := s.setCart s.cart.initMaps) rfl rfl]
  rfl

/-! Bit 5 of P -/

theorem busWrite_p (a : Addr) (v : Byte) (s : State) : (busWrite a v s).2.p = s.p := by
  obtain ⟨m, u, r, c, q, k, heq⟩ := busWrite_changes a v s
  rw [heq]

theorem busRead_p (a : Addr) (s : State) : (busRead a s).2.p = s.p := by
  obtain ⟨⟨-, -, hp⟩, -⟩ := busRead_registers a s
  exact hp

theorem executeDot_p (s : State) : (executeDot s).p = s.p := by rw [executeDot_eq]

theorem bitFive_stable : Stable (fun s => flagR s.p = true) where
  setA _ h := h
  setX _ h := h
  setY _ h := h
  setSp _ h := h
  setPc _ h := h
  setCycles _ h := h
  setP _ hv h := hv h
  read {s} a h := by rw [busRead_p a s]; exact h
  write {s} a v h := by rw [busWrite_p a v s]; exact h

theorem opPlp_p (s : State) : (opPlp s).p = pulledStatus (pop s).1 := rfl

theorem returnFromVector_p (s : State) : (returnFromVector s).p = pulledStatus (pop s).1 := by
  simp only [returnFromVector, popWord_eq, State.setPc_p, State.setSp_p, State.setP_p]

theorem serviceReset_p (s : State) : (serviceReset s).p = 0x22 := by
  simp only [serviceReset, State.serviced, busRead16, State.setPending_p, State.setCycles_p, State.setPc_p, busRead_p,
    State.setP_p]

/-- Settles O13: no operation of a step clears bit 5; the whole values of P are those of the pulled status, of power-on and of
the RESET service. -/
theorem statusBitFive : Obligations.StatusBitFive := by
  refine ⟨fun _ _ _ he hs => exec_stable bitFive_stable hs he, fun _ _ he hs => ?_, fun s => ?_, fun s => ?_, fun s => ?_⟩
  · exact step_stable bitFive_stable (fun _ h => h) (fun {u} h => by rw [executeDot_p u]; exact h) hs he
  · exact ⟨_, exec_eq .plp s, (opPlp_p _).trans (congrArg pulledStatus (pop_credit_fst _ s))⟩
  · exact ⟨_, exec_eq .rti s, (returnFromVector_p _).trans (congrArg pulledStatus (pop_credit_fst _ s))⟩
  · exact ⟨by rw [initMachine_eq], serviceReset_p s⟩

/-! Power-on and reset -/

/-- Settles O39: `initMachine_eq` is the state after `Init`, and `Reset` sets the PPU's fresh values and the latch alone. -/
theorem powerOn : Obligations.PowerOn := by
  intro s
  dsimp only
  have hinit : s.apply .init = initMachine s := rfl
  obtain ⟨h0, h1⟩ := resetVector_plain
  rw [hinit, initMachine_eq]
  exact ⟨rfl, rfl, rfl, rfl, rfl, vectorWord_congr h0 h1 rfl rfl, rfl, rfl, rfl, rfl, rfl, rfl, rfl⟩

end Sys2Proof.Machine

/-! Proofs of the statements about memory (spec/20_memory.md): the CPU bus, OAM DMA, the PPU's memory, and the dots that follow
a step. -/

namespace Sys2Proof.Machine

/-! Internal RAM -/

/-- Settles O14: an address below 0x2000 and its remainder modulo 0x800 have the same offset in RAM. -/
theorem ramMirroring : Obligations.RamMirroring := by
  intro a v s ha
  have hmod : (BitVec.ofNat 16 (a.toNat % 0x800)).toNat = a.toNat % 0x800 := by
    rw [BitVec.toNat_ofNat]
    omega
  have hlow : (BitVec.ofNat 16 (a.toNat % 0x800)).toNat < 0x2000 := by omega
  rw [busRead_ram ha, busRead_ram hlow, busWrite_ram ha, busWrite_ram hlow, hmod, Nat.mod_mod]
  exact ⟨rfl, rfl⟩

/-! Bus writes outside the PPU window -/

/-- A write that reaches no memory and no register has no effect (R76, R89). -/
theorem busWrite_ignored {a : Addr} (hw : ¬inPpuWindow a) (hd : a ≠ 0x4014#16) (hs : ¬storesByte a) (v : Byte) (s : State) :
    busWrite a v s = (0, s) := by
  have hd' : a.toNat ≠ 0x4014 := fun e => hd (BitVec.eq_of_toNat_eq e)
  simp only [inPpuWindow] at hw
  simp only [storesByte, not_or] at hs
  rw [busWrite, if_neg hs.1, if_neg (by omega), if_neg hd']
  split
  · rfl
  · rw [Cartridge.writePrg, if_neg hs.2]
    rfl

/-- Settles O15: `busWrite_ram`, `busWrite_prgRam` and `busWrite_ignored` are the three cases of such a write. -/
theorem plainWrite : Obligations.PlainWrite := by
  intro a b v s hw hd
  obtain ⟨hsame, hother⟩ := busWrite_bytes a v s
  refine ⟨?_, ?_, hsame b, hother b, fun hr => ?_, fun h1 h2 => ?_, fun hs => ?_⟩
  · rw [busWrite_cycles, if_neg hd]
  · obtain ⟨m, r, heq⟩ := busWrite_plain hw hd v s
    rw [heq]
    exact ⟨⟨rfl, rfl, rfl, rfl⟩, rfl, rfl⟩
  · rw [busWrite_ram hr]
    exact ⟨_, rfl, fun k => Memory.read_write _ _ k v⟩
  · rw [busWrite_prgRam h1 h2, show a.toNat % 0x2000 = a.toNat - 0x6000 by omega]
    exact ⟨_, rfl, fun k => Memory.read_write _ _ k v⟩
  · rw [busWrite_ignored hw hd hs]

/-! Bus reads from 0x4000 up -/

/-- The register stubs and the expansion area read 0 (R76, R88). -/
theorem busRead_stub {a : Addr} (h1 : 0x4000 ≤ a.toNat) (h2 : a.toNat < 0x6000) (s : State) : busRead a s = (0, s) := by
  rw [busRead_plain_eq (by simp only [inPpuWindow]; omega), plainByte, if_neg (by omega)]
  split
  · rfl
  · rw [Cartridge.readPrg, if_pos h2]

/-- A read of PRG RAM (R88). -/
theorem busRead_prgRam {a : Addr} (h1 : 0x6000 ≤ a.toNat) (h2 : a.toNat < 0x8000) (s : State) :
    busRead a s = (s.cart.prgRam.read (a.toNat - 0x6000), s) := by
  rw [busRead_plain_eq (by simp only [inPpuWindow]; omega), plainByte, if_neg (by omega), if_neg (by omega),
    Cartridge.readPrg, if_neg (by omega), if_pos h2, show a.toNat % 0x2000 = a.toNat - 0x6000 by omega]

/-- A read of PRG ROM, through the bank that the map names for the slot (R88). -/
theorem busRead_prgRom {a : Addr} (h : 0x8000 ≤ a.toNat) {s : State} {bank : Nat}
    (hb : s.cart.prgMap[(a.toNat - 0x8000) / 1024]? = some bank) :
    busRead a s = (s.cart.prgRom.read (1024 * bank + a.toNat % 1024), s) := by
  have ha := a.isLt
  rw [busRead_plain_eq (by simp only [inPpuWindow]; omega), plainByte, if_neg (by omega), if_neg (by omega),
    Cartridge.readPrg, if_neg (by omega), if_neg (by omega), Cartridge.prgKey,
    show a.toNat % 0x8000 = a.toNat - 0x8000 by omega, List.getD_eq_getElem?_getD, hb, Option.getD_some]

/-- With the map of a 16 KiB cartridge, PRG ROM repeats every 0x4000 addresses (R88). -/
theorem busRead_prgRom_16k {a : Addr} (h : 0x8000 ≤ a.toNat) {s : State}
    (hm : s.cart.prgMap = (List.range 32).map (fun i => i % 16)) :
    busRead a s = (s.cart.prgRom.read ((a.toNat - 0x8000) % 0x4000), s) := by
  have ha := a.isLt
  have hb : s.cart.prgMap[(a.toNat - 0x8000) / 1024]? = some ((a.toNat - 0x8000) / 1024 % 16) := by
    rw [hm, List.getElem?_map, List.getElem?_range (by omega), Option.map_some]
  rw [busRead_prgRom h hb,
    show 1024 * ((a.toNat - 0x8000) / 1024 % 16) + a.toNat % 1024 = (a.toNat - 0x8000) % 0x4000 by omega]

/-- Settles O16: one reading rule for each range of addresses, and `busWrite_ignored` at the stubs. -/
theorem ioStubs : Obligations.IoStubs := by
  intro a s
  refine ⟨fun h1 h2 => ⟨busRead_stub h1 (by omega) s, fun v hd => busWrite_ignored ?_ hd ?_ v s⟩,
    fun h1 h2 => busRead_stub (by omega) h2 s, fun h1 h2 => busRead_prgRam h1 h2 s, fun h bank hb => busRead_prgRom h hb,
    fun h1 h2 hm => ?_⟩
  · simp only [inPpuWindow]; omega
  · simp only [storesByte]; omega
  · have hup : (a + 0x4000).toNat = a.toNat + 0x4000 := by
      rw [BitVec.toNat_add, show (0x4000 : Addr).toNat = 0x4000 from rfl]
      omega
    rw [busRead_prgRom_16k h1 hm, busRead_prgRom_16k (a := a + 0x4000) (by omega) hm, hup,
      show (a.toNat + 0x4000 - 0x8000) % 0x4000 = a.toNat - 0x8000 by omega,
      show (a.toNat - 0x8000) % 0x4000 = a.toNat - 0x8000 by omega]
    exact ⟨rfl, rfl⟩

/-! OAM DMA -/

/-- One byte of OAM DMA: a bus read and a write to PPU register 4 (R78). -/
def dmaByte (a : Addr) (s : State) : State := writeRegister 4 (busRead a s).1 (busRead a s).2

/-- The loop of OAM DMA as a fold over the offsets (R78). -/
theorem dmaTransfer_eq_foldl (n base : Nat) (s : State) :
    dmaTransfer n (BitVec.ofNat 16 base) s =
      (List.range n).foldl (fun t i => dmaByte (BitVec.ofNat 16 (base + i)) t) s := by
  induction n generalizing base s with
  | zero => rfl
  | succ n ih =>
    have hnext : BitVec.ofNat 16 base + 1 = BitVec.ofNat 16 (base + 1) := (BitVec.ofNat_add base 1).symm
    rw [dmaTransfer, hnext, ih, List.range_succ_eq_map, List.foldl_cons, List.foldl_map]
    simp only [Nat.succ_eq_add_one, Nat.add_assoc, Nat.add_comm 1]
    rfl

/-- A write to 0x4014 (R71, R78). -/
theorem busWrite_dma (v : Byte) (s : State) :
    busWrite 0x4014 v s =
      (513, (List.range 256).foldl (fun t i => dmaByte (BitVec.ofNat 16 (256 * v.toNat + i)) t) s) := by
  have hpage : word16 v 0 = BitVec.ofNat 16 (256 * v.toNat) := by
    have hv := v.isLt
    apply BitVec.eq_of_toNat_eq
    rw [word16_toNat, BitVec.toNat_ofNat, show (0 : Byte).toNat = 0 from rfl]
    omega
  rw [← dmaTransfer_eq_foldl, ← hpage]
  rfl

/-- One byte of OAM DMA from an address outside the PPU window (R78, R317). -/
theorem dmaByte_plain {a : Addr} (h : ¬inPpuWindow a) (s : State) :
    dmaByte a s = s.setPpu { s.ppu with
      oam := s.ppu.oam.write s.ppu.oamAddr.toNat (plainByte s.ram s.cart a), oamAddr := s.ppu.oamAddr + 1 } := by
  rw [dmaByte, busRead_plain_eq h]
  rfl

/-- The first `n` bytes of OAM DMA from addresses outside the PPU window: byte `i` lands at OAMAddr + `i`, and only OAM and
OAMAddr change (R78). -/
theorem dmaBytes_plain {addr : Nat → Addr} (s : State) {n : Nat} (hn : n ≤ 256) (h : ∀ i < n, ¬inPpuWindow (addr i)) :
    ∃ m : Memory, (List.range n).foldl (fun t i => dmaByte (addr i) t) s =
        s.setPpu { s.ppu with oam := m, oamAddr := s.ppu.oamAddr + BitVec.ofNat 8 n } ∧
      ∀ i < n, m.read ((s.ppu.oamAddr.toNat + i) % 256) = (busRead (addr i) s).1 := by
  induction n with
  | zero => exact ⟨s.ppu.oam, by rw [BitVec.add_zero]; rfl, fun i hi => absurd hi (Nat.not_lt_zero i)⟩
  | succ n ih =>
    obtain ⟨m, heq, hread⟩ := ih (by omega) fun i hi => h i (by omega)
    have hkey : (s.ppu.oamAddr + BitVec.ofNat 8 n).toNat = (s.ppu.oamAddr.toNat + n) % 256 := by
      rw [BitVec.toNat_add, BitVec.toNat_ofNat]
      omega
    refine ⟨m.write ((s.ppu.oamAddr.toNat + n) % 256) (busRead (addr n) s).1, ?_, fun i hi => ?_⟩
    · rw [List.range_succ, List.foldl_append, heq, List.foldl_cons, List.foldl_nil, dmaByte_plain (h n (by omega)),
        busRead_plain_eq (h n (by omega)), State.setPpu_ppu, hkey, BitVec.ofNat_add, ← BitVec.add_assoc]
      rfl
    · rw [Memory.read_write]
      by_cases hin : i = n
      · rw [hin, if_pos rfl]
      · rw [if_neg (by omega), hread i (by omega)]

/-- Settles O17: `busWrite_dma` is the loop; on a page outside the PPU window `dmaBytes_plain` says where the 256 bytes land,
and OAMAddr is back where it was. -/
theorem oamDma : Obligations.OamDma := by
  intro v s
  rw [busWrite_dma]
  refine ⟨rfl, fun hpage => ?_⟩
  have hv := v.isLt
  have hplain : ∀ i < 256, ¬inPpuWindow (BitVec.ofNat 16 (256 * v.toNat + i)) := by
    intro i hi
    rw [inPpuWindow, BitVec.toNat_ofNat]
    omega
  obtain ⟨m, heq, hread⟩ := dmaBytes_plain s (Nat.le_refl 256) hplain
  have hwrap : s.ppu.oamAddr + BitVec.ofNat 8 256 = s.ppu.oamAddr := BitVec.add_zero _
  rw [hwrap] at heq
  dsimp only
  rw [heq]
  exact ⟨hread, m, rfl⟩

/-! Side effects of bus reads -/

/-- A read in the PPU window is a register read (R73). -/
theorem busRead_window {a : Addr} (h : inPpuWindow a) (s : State) : busRead a s = readRegister (a.toNat % 8) s := by
  obtain ⟨h1, h2⟩ := h
  rw [busRead, if_neg (by omega), if_pos h2, regIndex]

/-- At (0, 0) VBL and the NMI are suppressed (R321, D18). -/
theorem Ppu.suppress_vbl {p : Ppu} (h : p.scanline = 0 ∧ p.dot = 0) :
    p.suppress = { p with suppressVbl := true, suppressNmi := true } := by
  rw [Ppu.suppress, if_pos h]

/-- At (0, 1) and (0, 2) the NMI alone is suppressed (R321, D18). -/
theorem Ppu.suppress_nmi {p : Ppu} (h : (p.scanline = 0 ∧ p.dot = 1) ∨ (p.scanline = 0 ∧ p.dot = 2)) :
    p.suppress = { p with suppressNmi := true } := by
  rw [Ppu.suppress, if_neg (by omega), if_pos (by omega)]

theorem Ppu.suppress_none {p : Ppu}
    (h : ¬((p.scanline = 0 ∧ p.dot = 0) ∨ (p.scanline = 0 ∧ p.dot = 1) ∨ (p.scanline = 0 ∧ p.dot = 2))) :
    p.suppress = p := by
  rw [Ppu.suppress, if_neg (by omega), if_neg (by omega)]

/-- A read of register 7 changes only the read buffer and `v` (R331). -/
theorem readVramData_state (s : State) :
    ∃ (b : Byte) (v : VramAddr), (readVramData s).2 = s.setPpu { s.ppu with readBuffer := b, v := v } := by
  unfold readVramData
  dsimp only
  split <;> exact ⟨_, _, rfl⟩

/-- Settles O19: a read outside the window has no side effect, and each register read says its own. -/
theorem readSideEffects : Obligations.ReadSideEffects := by
  intro a s
  refine ⟨fun h => busRead_plain h s, fun hw h4 => ?_, fun hw h2 h4 h7 => ?_, fun hw h2 => ?_, fun hw h7 => ?_⟩
  · rw [busRead_window hw, h4, readRegister_4, readOamData]
  · rw [busRead_window hw, readRegister_other h2 h4 h7, readUnreadable]
  · intro cleared at0
    rw [busRead_window hw, h2, readRegister_2, readStatus]
    refine ⟨fun h => ?_, fun h => ?_, fun h => ?_⟩
    · rw [Ppu.suppress_vbl h]
    · rw [Ppu.suppress_nmi h]
    · rw [Ppu.suppress_none h]
  · rw [busRead_window hw, h7, readRegister_7]
    exact readVramData_state s

/-! The PPU's palette and CHR memory -/

/-- Which addresses share a palette index (R109). -/
theorem palIndex_eq_iff (a b : Nat) :
    palIndex a = palIndex b ↔ a % 32 = b % 32 ∨ (a % 4 = 0 ∧ b % 4 = 0 ∧ a % 16 = b % 16) := by
  unfold palIndex
  split <;> split <;> omega

theorem ppuRead_palette {a : PpuAddr} (h : 0x3F00 ≤ a.toNat) (c : Cartridge) (p : Ppu) :
    ppuRead c p a = p.palette.read (palIndex a.toNat) := by
  rw [ppuRead, if_neg (by omega), if_neg (by omega)]

theorem ppuWrite_palette {a : PpuAddr} (h : 0x3F00 ≤ a.toNat) (c : Cartridge) (p : Ppu) (v : Byte) :
    ppuWrite c p a v = (c, { p with palette := p.palette.write (palIndex a.toNat) v }) := by
  rw [ppuWrite, if_neg (by omega), if_neg (by omega)]

/-- A palette write is seen at the addresses with the same index and at no other palette address (R109). -/
theorem ppuRead_ppuWrite_palette {a b : PpuAddr} (ha : 0x3F00 ≤ a.toNat) (hb : 0x3F00 ≤ b.toNat) (c : Cartridge) (p : Ppu)
    (v : Byte) :
    ppuRead c (ppuWrite c p a v).2 b = if palIndex b.toNat = palIndex a.toNat then v else ppuRead c p b := by
  rw [ppuWrite_palette ha, ppuRead_palette hb, ppuRead_palette hb, Memory.read_write]

/-- The CHR byte of a PPU address, through the bank that the map names for the window (R90). -/
theorem Cartridge.chrKey_eq {c : Cartridge} {a : PpuAddr} (ha : a.toNat < 0x2000) {bank : Nat}
    (hb : c.chrMap[a.toNat / 1024]? = some bank) : c.chrKey a = 1024 * bank + a.toNat % 1024 := by
  rw [Cartridge.chrKey, Nat.mod_eq_of_lt ha, List.getD_eq_getElem?_getD, hb, Option.getD_some]

/-- Settles O20: palette addresses share a byte by their index, CHR addresses are keys of the mapped bank. -/
theorem paletteAliases : Obligations.PaletteAliases := by
  intro c p
  refine ⟨fun a b v ha hb => ?_, fun a v bank ha hb => ?_⟩
  · intro q same
    have hsame : same a.toNat b.toNat ↔ palIndex b.toNat = palIndex a.toNat :=
      (palIndex_eq_iff _ _).symm.trans eq_comm
    rw [hsame, ppuRead_ppuWrite_palette ha hb]
    exact ⟨fun h => if_pos h, fun h => if_neg h⟩
  · intro key
    have hkey : c.chrKey a = key := Cartridge.chrKey_eq ha hb
    rw [ppuRead, if_pos ha, Cartridge.readChr, ppuWrite, if_pos ha, Cartridge.writeChr, hkey]
    refine ⟨rfl, fun hrom => ?_, fun hram => ?_⟩
    · rw [hrom]; rfl
    · rw [if_pos hram]
      exact ⟨_, rfl, fun k => Memory.read_write _ _ k v⟩

/-! The PPU's nametables -/

/-- The byte at an offset of a nametable page: pages C and D read 0 (R108). -/
def Ppu.readPage (p : Ppu) (g : NtPage) (k : Nat) : Byte :=
  match g with
  | .a => p.ntA.read k
  | .b => p.ntB.read k
  | .c => 0
  | .d => 0

/-- A write at an offset of a nametable page: pages C and D ignore it (R108). -/
def Ppu.writePage (p : Ppu) (g : NtPage) (k : Nat) (v : Byte) : Ppu :=
  match g with
  | .a => { p with ntA := p.ntA.write k v }
  | .b => { p with ntB := p.ntB.write k v }
  | .c => p
  | .d => p

/-- The pages without storage (R108). -/
def NtPage.isStub (g : NtPage) : Prop := g = .c ∨ g = .d

theorem Ppu.readPage_stub {g : NtPage} (h : g.isStub) (p : Ppu) (k : Nat) : p.readPage g k = 0 := by
  rcases h with rfl | rfl <;> rfl

theorem Ppu.writePage_stub {g : NtPage} (h : g.isStub) (p : Ppu) (k : Nat) (v : Byte) : p.writePage g k v = p := by
  rcases h with rfl | rfl <;> rfl

theorem Ppu.readPage_writePage_same {g : NtPage} (h : ¬g.isStub) (p : Ppu) (k : Nat) (v : Byte) :
    (p.writePage g k v).readPage g k = v := by
  cases g with
  | a => exact Memory.read_write_same _ k v
  | b => exact Memory.read_write_same _ k v
  | c => exact absurd (.inl rfl) h
  | d => exact absurd (.inr rfl) h

theorem Ppu.readPage_writePage_other {g g' : NtPage} {k k' : Nat} (h : ¬(g = g' ∧ k = k')) (p : Ppu) (v : Byte) :
    (p.writePage g k v).readPage g' k' = p.readPage g' k' := by
  have hkey : g = g' → k' ≠ k := fun hg hk => h ⟨hg, hk.symm⟩
  cases g with
  | a =>
    cases g' with
    | a => exact Memory.read_write_other _ v (hkey rfl)
    | _ => rfl
  | b =>
    cases g' with
    | b => exact Memory.read_write_other _ v (hkey rfl)
    | _ => rfl
  | c => rfl
  | d => rfl

/-- The page of a nametable address (R108, R110). -/
def Cartridge.pageOf (c : Cartridge) (a : PpuAddr) : NtPage := ntPage c.mirroring (a.toNat / 0x400 % 4)

theorem ppuRead_nametable {a : PpuAddr} (h1 : 0x2000 ≤ a.toNat) (h2 : a.toNat < 0x3F00) (c : Cartridge) (p : Ppu) :
    ppuRead c p a = p.readPage (c.pageOf a) (a.toNat % 0x400) := by
  rw [ppuRead, if_neg (by omega), if_pos h2]
  rfl

theorem ppuWrite_nametable {a : PpuAddr} (h1 : 0x2000 ≤ a.toNat) (h2 : a.toNat < 0x3F00) (c : Cartridge) (p : Ppu)
    (v : Byte) : ppuWrite c p a v = (c, p.writePage (c.pageOf a) (a.toNat % 0x400) v) := by
  rw [ppuWrite, if_neg (by omega), if_pos h2]
  rfl

/-- Only a four-screen cartridge has pages without storage, in quadrants 2 and 3 (R108). -/
theorem ntPage_isStub (m : Mirroring) (q : Nat) : (ntPage m q).isStub ↔ m = .fourScreen ∧ 2 ≤ q := by
  cases m with
  | horizontal => by_cases h : q < 2 <;> simp [ntPage, NtPage.isStub, h]
  | vertical => by_cases h : q % 2 = 0 <;> simp [ntPage, NtPage.isStub, h]
  | oneScreenA => simp [ntPage, NtPage.isStub]
  | oneScreenB => simp [ntPage, NtPage.isStub]
  | fourScreen => rcases q with _ | _ | _ | q <;> simp [ntPage, NtPage.isStub]

/-- The quadrants that share a page in each mirroring mode, as R108 lists them. -/
def Mirroring.samePage (m : Mirroring) (q q' : Nat) : Bool :=
  match m with
  | .horizontal => q / 2 == q' / 2
  | .vertical => q % 2 == q' % 2
  | .oneScreenA => true
  | .oneScreenB => true
  | .fourScreen => q == q'

/-- `samePage` says when two of the four quadrants have the same page (R108). -/
theorem ntPage_eq_iff (m : Mirroring) : ∀ q < 4, ∀ q' < 4, ntPage m q = ntPage m q' ↔ m.samePage q q' = true := by
  cases m <;> decide

/-- Settles O21: addresses share a byte exactly where page and offset agree, and the mirroring mode says which quadrants have
the same page. -/
theorem nametableMirroring : Obligations.NametableMirroring := by
  intro c p a b v ha1 ha2 hb1 hb2 qa qb r samePage stub
  have hpage : samePage = true ↔ c.pageOf a = c.pageOf b :=
    (ntPage_eq_iff c.mirroring qa (Nat.mod_lt _ (by decide)) qb (Nat.mod_lt _ (by decide))).symm
  have hstubA : stub qa ↔ (c.pageOf a).isStub := (ntPage_isStub c.mirroring qa).symm
  have hstubB : stub qb ↔ (c.pageOf b).isStub := (ntPage_isStub c.mirroring qb).symm
  have hr : r = (c, p.writePage (c.pageOf a) (a.toNat % 0x400) v) := ppuWrite_nametable ha1 ha2 c p v
  have hread (q : Ppu) : ppuRead c q b = q.readPage (c.pageOf b) (b.toNat % 0x400) := ppuRead_nametable hb1 hb2 c q
  rw [hr, hread p, hread, hpage, hstubA, hstubB]
  refine ⟨fun h => ?_, fun h => Ppu.readPage_stub h p _, fun h hg hk => ?_, fun h => Ppu.readPage_writePage_other h p v⟩
  · rw [Ppu.writePage_stub h]
  · rw [← hg, ← hk]
    exact Ppu.readPage_writePage_same h p _ v

/-! The dots after a step -/

/-- The PPU stands at the same position of a frame of the same parity (R45, R100). -/
structure Ppu.SamePosition (p q : Ppu) : Prop where
  scanline : q.scanline = p.scanline
  dot : q.dot = p.dot
  oddFrame : q.oddFrame = p.oddFrame

theorem Ppu.SamePosition.trans {p q r : Ppu} (h : p.SamePosition q) (k : q.SamePosition r) : p.SamePosition r :=
  ⟨k.scanline.trans h.scanline, k.dot.trans h.dot, k.oddFrame.trans h.oddFrame⟩

theorem busRead_samePosition (a : Addr) (s : State) : s.ppu.SamePosition (busRead a s).2.ppu := by
  obtain ⟨b1, b2, b3, b4, rb, v, k, heq⟩ := busRead_changes a s
  rw [heq]
  exact ⟨rfl, rfl, rfl⟩

theorem writeNametable_samePosition (c : Cartridge) (p : Ppu) (a : PpuAddr) (v : Byte) :
    p.SamePosition (writeNametable c p a v) := by
  unfold writeNametable
  split <;> exact ⟨rfl, rfl, rfl⟩

theorem ppuWrite_samePosition (c : Cartridge) (p : Ppu) (a : PpuAddr) (v : Byte) : p.SamePosition (ppuWrite c p a v).2 := by
  unfold ppuWrite
  split
  · exact ⟨rfl, rfl, rfl⟩
  split
  · exact writeNametable_samePosition c p a v
  · exact ⟨rfl, rfl, rfl⟩

/-- No register write moves the PPU (R100, R312). -/
theorem writeRegister_samePosition (i : Nat) (v : Byte) (s : State) : s.ppu.SamePosition (writeRegister i v s).ppu := by
  unfold writeRegister
  split
  · unfold writeCtrl
    dsimp only
    split <;> exact ⟨rfl, rfl, rfl⟩
  split
  · exact ⟨rfl, rfl, rfl⟩
  split
  · exact ⟨rfl, rfl, rfl⟩
  split
  · exact ⟨rfl, rfl, rfl⟩
  split
  · exact ⟨rfl, rfl, rfl⟩
  split
  · unfold writeScroll
    dsimp only
    split <;> exact ⟨rfl, rfl, rfl⟩
  split
  · unfold writeVramAddr
    dsimp only
    split <;> exact ⟨rfl, rfl, rfl⟩
  · exact (ppuWrite_samePosition s.cart s.ppu s.ppu.vAddr v).trans ⟨rfl, rfl, rfl⟩

theorem dmaTransfer_samePosition (n : Nat) (a : Addr) (s : State) : s.ppu.SamePosition (dmaTransfer n a s).ppu := by
  induction n generalizing a s with
  | zero => exact ⟨rfl, rfl, rfl⟩
  | succ n ih => exact ((busRead_samePosition a s).trans (writeRegister_samePosition 4 _ _)).trans (ih (a + 1) _)

theorem busWrite_samePosition (a : Addr) (v : Byte) (s : State) : s.ppu.SamePosition (busWrite a v s).2.ppu := by
  unfold busWrite
  split
  · exact ⟨rfl, rfl, rfl⟩
  split
  · exact writeRegister_samePosition _ v s
  split
  · exact dmaTransfer_samePosition 256 (word16 v 0) s
  split
  · exact ⟨rfl, rfl, rfl⟩
  · exact ⟨rfl, rfl, rfl⟩

theorem samePosition_stable (p : Ppu) : Stable (fun s => p.SamePosition s.ppu) where
  setA _ h := h
  setX _ h := h
  setY _ h := h
  setSp _ h := h
  setPc _ h := h
  setCycles _ h := h
  setP _ _ h := h
  read a h := h.trans (busRead_samePosition a _)
  write a v h := h.trans (busWrite_samePosition a v _)

/-- A step is a CPU part, which keeps what the CPU's operations keep, and the PPU's catch-up (R100). -/
theorem step_eq_catchUp {P : State → Prop} (h : Stable P) (hq : ∀ {s : State} q, P s → P (s.setPending q)) {s t : State}
    (hs : P s) (he : step s = .next t) : ∃ u, P u ∧ t = catchUp u := by
  have hservice := servicePending_stable h hq hs
  rw [step_eq] at he
  refine ⟨_, ?_, (Host.Outcome.next.inj he).symm⟩
  split <;> rename_i heq <;> rw [heq] at hservice
  · exact hservice
  · exact h.meaning _ _ _ (h.setCycles _ (fetchInstr_stable h hservice))

theorem executeCycles_opCycles (n : Nat) (s : State) : (executeCycles n s).opCycles = s.opCycles :=
  executeCycles_induct (P := fun u => u.opCycles = s.opCycles) (fun u hu => by rw [executeDot_eq]; exact hu) n s rfl

/-- Settles O8: the CPU part of a step keeps the position, and the catch-up is three dots for each cycle of it. -/
theorem stepDots : Obligations.StepDots := by
  intro s t he
  obtain ⟨u, hpos, rfl⟩ := step_eq_catchUp (samePosition_stable s.ppu) (fun _ h => h) ⟨rfl, rfl, rfl⟩ he
  exact ⟨u, hpos.scanline, hpos.dot, hpos.oddFrame, (executeCycles_opCycles _ u).symm, rfl⟩

end Sys2Proof.Machine

/-! Proofs of the statements about encoding (spec/30_encoding.md): the opcode matrix, decoding and encoding, and the cycles of a
step. -/

namespace Sys2Proof.Laws.Decodes

open Sys2Proof Sys2Proof.Machine

/-- Every instruction fits the matrix: the laws of the 256 constructors as one. -/
theorem fitsMatrix : ∀ i : Instr, Statement i
  | .brk => brk | .oraIndx a => oraIndx a | .unl02 => unl02 | .sloIndx a => sloIndx a | .dop04 a => dop04 a
  | .oraZp a => oraZp a | .aslZp a => aslZp a | .sloZp a => sloZp a | .php => php | .oraImm v => oraImm v
  | .aslAcc => aslAcc | .unl0B => unl0B | .top0C a => top0C a | .oraAbs a => oraAbs a | .aslAbs a => aslAbs a
  | .sloAbs a => sloAbs a | .bpl d => bpl d | .oraIndy a => oraIndy a | .unl12 => unl12 | .sloIndy a => sloIndy a
  | .dop14 a => dop14 a | .oraZpx a => oraZpx a | .aslZpx a => aslZpx a | .sloZpx a => sloZpx a | .clc => clc
  | .oraAbsy a => oraAbsy a | .nop1x1A => nop1x1A | .sloAbsy a => sloAbsy a | .top1C a => top1C a
  | .oraAbsx a => oraAbsx a | .aslAbsx a => aslAbsx a | .sloAbsx a => sloAbsx a | .jsr a => jsr a
  | .andIndx a => andIndx a | .unl22 => unl22 | .rlaIndx a => rlaIndx a | .bitZp a => bitZp a | .andZp a => andZp a
  | .rolZp a => rolZp a | .rlaZp a => rlaZp a | .plp => plp | .andImm v => andImm v | .rolAcc => rolAcc | .unl2B => unl2B
  | .bitAbs a => bitAbs a | .andAbs a => andAbs a | .rolAbs a => rolAbs a | .rlaAbs a => rlaAbs a | .bmi d => bmi d
  | .andIndy a => andIndy a | .unl32 => unl32 | .rlaIndy a => rlaIndy a | .dop34 a => dop34 a | .andZpx a => andZpx a
  | .rolZpx a => rolZpx a | .rlaZpx a => rlaZpx a | .sec => sec | .andAbsy a => andAbsy a | .nop1x3A => nop1x3A
  | .rlaAbsy a => rlaAbsy a | .top3C a => top3C a | .andAbsx a => andAbsx a | .rolAbsx a => rolAbsx a
  | .rlaAbsx a => rlaAbsx a | .rti => rti | .eorIndx a => eorIndx a | .unl42 => unl42 | .sreIndx a => sreIndx a
  | .dop44 a => dop44 a | .eorZp a => eorZp a | .lsrZp a => lsrZp a | .sreZp a => sreZp a | .pha => pha
  | .eorImm v => eorImm v | .lsrAcc => lsrAcc | .unl4B => unl4B | .jmpAbs a => jmpAbs a | .eorAbs a => eorAbs a
  | .lsrAbs a => lsrAbs a | .sreAbs a => sreAbs a | .bvc d => bvc d | .eorIndy a => eorIndy a | .unl52 => unl52
  | .sreIndy a => sreIndy a | .dop54 a => dop54 a | .eorZpx a => eorZpx a | .lsrZpx a => lsrZpx a | .sreZpx a => sreZpx a
  | .cli => cli | .eorAbsy a => eorAbsy a | .nop1x5A => nop1x5A | .sreAbsy a => sreAbsy a | .top5C a => top5C a
  | .eorAbsx a => eorAbsx a | .lsrAbsx a => lsrAbsx a | .sreAbsx a => sreAbsx a | .rts => rts | .adcIndx a => adcIndx a
  | .unl62 => unl62 | .rraIndx a => rraIndx a | .dop64 a => dop64 a | .adcZp a => adcZp a | .rorZp a => rorZp a
  | .rraZp a => rraZp a | .pla => pla | .adcImm v => adcImm v | .rorAcc => rorAcc | .unl6B => unl6B
  | .jmpInd a => jmpInd a | .adcAbs a => adcAbs a | .rorAbs a => rorAbs a | .rraAbs a => rraAbs a | .bvs d => bvs d
  | .adcIndy a => adcIndy a | .unl72 => unl72 | .rraIndy a => rraIndy a | .dop74 a => dop74 a | .adcZpx a => adcZpx a
  | .rorZpx a => rorZpx a | .rraZpx a => rraZpx a | .sei => sei | .adcAbsy a => adcAbsy a | .nop1x7A => nop1x7A
  | .rraAbsy a => rraAbsy a | .top7C a => top7C a | .adcAbsx a => adcAbsx a | .rorAbsx a => rorAbsx a
  | .rraAbsx a => rraAbsx a | .dop80 v => dop80 v | .staIndx a => staIndx a | .dop82 v => dop82 v
  | .saxIndx a => saxIndx a | .styZp a => styZp a | .staZp a => staZp a | .stxZp a => stxZp a | .saxZp a => saxZp a
  | .dey => dey | .dop89 v => dop89 v | .txa => txa | .unl8B => unl8B | .styAbs a => styAbs a | .staAbs a => staAbs a
  | .stxAbs a => stxAbs a | .saxAbs a => saxAbs a | .bcc d => bcc d | .staIndy a => staIndy a | .unl92 => unl92
  | .unl93 => unl93 | .styZpx a => styZpx a | .staZpx a => staZpx a | .stxZpy a => stxZpy a | .saxZpy a => saxZpy a
  | .tya => tya | .staAbsy a => staAbsy a | .txs => txs | .unl9B => unl9B | .unl9C => unl9C | .staAbsx a => staAbsx a
  | .unl9E => unl9E | .unl9F => unl9F | .ldyImm v => ldyImm v | .ldaIndx a => ldaIndx a | .ldxImm v => ldxImm v
  | .laxIndx a => laxIndx a | .ldyZp a => ldyZp a | .ldaZp a => ldaZp a | .ldxZp a => ldxZp a | .laxZp a => laxZp a
  | .tay => tay | .ldaImm v => ldaImm v | .tax => tax | .unlAB => unlAB | .ldyAbs a => ldyAbs a | .ldaAbs a => ldaAbs a
  | .ldxAbs a => ldxAbs a | .laxAbs a => laxAbs a | .bcs d => bcs d | .ldaIndy a => ldaIndy a | .unlB2 => unlB2
  | .laxIndy a => laxIndy a | .ldyZpx a => ldyZpx a | .ldaZpx a => ldaZpx a | .ldxZpy a => ldxZpy a
  | .laxZpy a => laxZpy a | .clv => clv | .ldaAbsy a => ldaAbsy a | .tsx => tsx | .unlBB => unlBB
  | .ldyAbsx a => ldyAbsx a | .ldaAbsx a => ldaAbsx a | .ldxAbsy a => ldxAbsy a | .laxAbsy a => laxAbsy a
  | .cpyImm v => cpyImm v | .cmpIndx a => cmpIndx a | .dopC2 v => dopC2 v | .dcpIndx a => dcpIndx a | .cpyZp a => cpyZp a
  | .cmpZp a => cmpZp a | .decZp a => decZp a | .dcpZp a => dcpZp a | .iny => iny | .cmpImm v => cmpImm v | .dex => dex
  | .unlCB => unlCB | .cpyAbs a => cpyAbs a | .cmpAbs a => cmpAbs a | .decAbs a => decAbs a | .dcpAbs a => dcpAbs a
  | .bne d => bne d | .cmpIndy a => cmpIndy a | .unlD2 => unlD2 | .dcpIndy a => dcpIndy a | .dopD4 a => dopD4 a
  | .cmpZpx a => cmpZpx a | .decZpx a => decZpx a | .dcpZpx a => dcpZpx a | .cld => cld | .cmpAbsy a => cmpAbsy a
  | .nop1xDA => nop1xDA | .dcpAbsy a => dcpAbsy a | .topDC a => topDC a | .cmpAbsx a => cmpAbsx a
  | .decAbsx a => decAbsx a | .dcpAbsx a => dcpAbsx a | .cpxImm v => cpxImm v | .sbcIndx a => sbcIndx a
  | .dopE2 v => dopE2 v | .iscIndx a => iscIndx a | .cpxZp a => cpxZp a | .sbcZp a => sbcZp a | .incZp a => incZp a
  | .iscZp a => iscZp a | .inx => inx | .sbcImm v => sbcImm v | .nop => nop | .usbc v => usbc v | .cpxAbs a => cpxAbs a
  | .sbcAbs a => sbcAbs a | .incAbs a => incAbs a | .iscAbs a => iscAbs a | .beq d => beq d | .sbcIndy a => sbcIndy a
  | .unlF2 => unlF2 | .iscIndy a => iscIndy a | .dopF4 a => dopF4 a | .sbcZpx a => sbcZpx a | .incZpx a => incZpx a
  | .iscZpx a => iscZpx a | .sed => sed | .sbcAbsy a => sbcAbsy a | .nop1xFA => nop1xFA | .iscAbsy a => iscAbsy a
  | .topFC a => topFC a | .sbcAbsx a => sbcAbsx a | .incAbsx a => incAbsx a | .iscAbsx a => iscAbsx a

end Sys2Proof.Laws.Decodes

namespace Sys2Proof.Machine

/-! The opcode matrix -/

/-- Row r and column c of the matrix hold the instruction of the opcode value 16 r + c (R125 to R127). -/
theorem opcodeTable_opcodes (l h : Byte) :
    opcodeTable.map (fun row => row.map (fun f => (f l h).opcode)) =
      (List.range 16).map (fun r => (List.range 16).map (fun c => BitVec.ofNat 8 (16 * r + c))) := rfl

/-- The operand bytes of an instruction that takes `n` of the bytes `l` and `h`: two are the halves of their word (R122). -/
def takenBytes (l h : Byte) : Nat → List Byte
  | 0 => []
  | 1 => [l]
  | _ => [loByte (word16 h l), hiByte (word16 h l)]

theorem takenBytes_eq_take (l h : Byte) {n : Nat} (hn : n ≤ 2) : takenBytes l h n = [l, h].take n := by
  match n, hn with
  | 0, _ => rfl
  | 1, _ => rfl
  | 2, _ => simp [takenBytes]

/-- An entry of the matrix keeps the bytes it takes, and how many it takes does not depend on them (R120, R122). -/
theorem opcodeTable_bytes (l h : Byte) :
    opcodeTable.map (fun row => row.map (fun f => (f l h).operand.bytes)) =
      opcodeTable.map (fun row => row.map (fun f => takenBytes l h (f 0 0).operand.bytes.length)) := rfl

theorem opcodeTable_getElem_opcode (l h : Byte) {r c : Nat} (hr : r < opcodeTable.length) (hc : c < opcodeTable[r].length) :
    (opcodeTable[r][c] l h).opcode = BitVec.ofNat 8 (16 * r + c) := by
  have hr16 : r < 16 := hr
  have hc16 : c < 16 := opcodeTable_full opcodeTable[r] (List.getElem_mem _) ▸ hc
  have entry := congrArg (fun t => t[r]?.bind (fun row => row[c]?)) (opcodeTable_opcodes l h)
  simpa [hr, hc, hr16, hc16] using entry

/-- Decoding keeps the opcode value, which is 16 times its row plus its column (R127, R130). -/
theorem decodeOpcode_opcode (op l h : Byte) : (decodeOpcode op l h).opcode = op :=
  (opcodeTable_getElem_opcode l h _ _).trans (by rw [Nat.div_add_mod, BitVec.ofNat_toNat, BitVec.setWidth_eq])

theorem Operand.bytes_length_le (o : Operand) : o.bytes.length ≤ 2 := by
  cases o <;> simp [Operand.bytes]

theorem operandCount_le (op : Byte) : operandCount op ≤ 2 := Operand.bytes_length_le _

theorem decodeOpcode_bytes (op l h : Byte) : (decodeOpcode op l h).operand.bytes = [l, h].take (operandCount op) := by
  have hrow := List.map_inj_left.1 (opcodeTable_bytes l h) (opcodeRow op) (List.getElem_mem _)
  exact (List.map_inj_left.1 hrow _ (List.getElem_mem _)).trans (takenBytes_eq_take l h (operandCount_le op))

/-! Decoding and encoding -/

/-- An instruction is determined by its opcode and its operand bytes (R120 to R123). -/
theorem instr_eq_of_bytes {i j : Instr} (hop : i.opcode = j.opcode) (hb : i.operand.bytes = j.operand.bytes) : i = j := by
  obtain ⟨-, hi⟩ := Laws.Decodes.fitsMatrix i
  obtain ⟨-, hj⟩ := Laws.Decodes.fitsMatrix j
  rw [← hi, ← hj, hop, hb]

theorem operand_bytes_length (i : Instr) : i.operand.bytes.length = operandCount i.opcode := (Laws.Decodes.fitsMatrix i).1

theorem decode_missing {op : Byte} {rest : List Byte} (h : rest.length < operandCount op) :
    decode (op :: rest) = .error (.missingOperand op) := if_pos h

/-- With the operand bytes there, decoding answers the instruction of the opcode and what is left. -/
theorem decode_cons {op : Byte} {rest : List Byte} (h : operandCount op ≤ rest.length) :
    decode (op :: rest) = .ok (decodeOpcode op (rest.getD 0 0) (rest.getD 1 0), rest.drop (operandCount op)) :=
  if_neg (Nat.not_lt.2 h)

theorem take_getD_eq_take {rest : List Byte} {n : Nat} (hn : n ≤ 2) (h : n ≤ rest.length) :
    [rest.getD 0 0, rest.getD 1 0].take n = rest.take n := by
  match n, rest, hn, h with
  | 0, _, _, _ => rfl
  | 1, _ :: _, _, _ => rfl
  | 2, _ :: _ :: _, _, _ => rfl

/-- The instruction that decoding answers has exactly the bytes read (R120, R122, R127). -/
theorem encode_decodeOpcode {op : Byte} {rest : List Byte} (h : operandCount op ≤ rest.length) :
    encode (decodeOpcode op (rest.getD 0 0) (rest.getD 1 0)) = op :: rest.take (operandCount op) := by
  rw [encode, decodeOpcode_opcode, decodeOpcode_bytes, take_getD_eq_take (operandCount_le op) h]

theorem encode_injective : Function.Injective encode := fun _ _ h => by
  obtain ⟨hop, hb⟩ := List.cons.inj h
  exact instr_eq_of_bytes hop hb

/-- Settles O1: the bytes fix the count of operand bytes, the instruction decoded has the same bytes, and `encode` is
injective. -/
theorem decodeOfEncode : Obligations.DecodeOfEncode := by
  intro i rest
  have hlen := operand_bytes_length i
  have hn : operandCount i.opcode ≤ (i.operand.bytes ++ rest).length := by rw [List.length_append]; omega
  have hbytes := encode_decodeOpcode hn
  rw [← hlen, List.take_left] at hbytes
  calc decode (encode i ++ rest)
      = decode (i.opcode :: (i.operand.bytes ++ rest)) := rfl
    _ = .ok (i, rest) := by rw [decode_cons hn, ← hlen, List.drop_left, encode_injective hbytes]

/-- Settles O2: what is decoded has the bytes read, and the two errors of `decode` are the two cases of the statement. -/
theorem encodeOfDecode : Obligations.EncodeOfDecode := by
  rintro (_ | ⟨op, tail⟩)
  · exact ⟨nofun, fun _ _ => .inl rfl⟩
  by_cases hn : operandCount op ≤ tail.length
  · rw [decode_cons hn]
    refine ⟨?_, nofun⟩
    rintro _ _ ⟨⟩
    rw [encode_decodeOpcode hn, List.cons_append, List.take_append_drop]
  · have hn := Nat.not_le.1 hn
    rw [decode_missing hn]
    exact ⟨nofun, fun _ _ => .inr ⟨op, tail, rfl, hn⟩⟩

/-- Settles O3: two bytes are enough for every opcode, and every instruction answers a next state. -/
theorem everyOpcodeDispatched : Obligations.EveryOpcodeDispatched := fun op l h =>
  ⟨_, _, decode_cons (operandCount_le op), decodeOpcode_opcode op l h, exec_next _⟩

/-- Settles O4: each word is decoded by the model. -/
theorem decodeWords : Obligations.DecodeWords := ⟨rfl, rfl, rfl, rfl, rfl, rfl, rfl, rfl, rfl⟩

/-! The cycles of a step -/

theorem baseCycles_bounds : ∀ op : Byte, 2 ≤ baseCycles op ∧ baseCycles op ≤ 8 := by decide

theorem busRead_opCycles (a : Addr) (s : State) : (busRead a s).2.opCycles = s.opCycles := (busRead_registers a s).2.1

theorem busWrite_opCycles (a : Addr) (v : Byte) (s : State) : (busWrite a v s).2.opCycles = s.opCycles := by
  obtain ⟨m, u, r, c, q, k, heq⟩ := busWrite_changes a v s
  rw [heq]

theorem busRead16_opCycles (a b : Addr) (s : State) : (busRead16 a b s).2.opCycles = s.opCycles :=
  (busRead_opCycles b _).trans (busRead_opCycles a s)

theorem effAddr_opCycles (o : Operand) (s : State) : (effAddr o s).2.opCycles = s.opCycles := by
  cases o with
  | ind _ | indx _ | indy _ => exact busRead16_opCycles _ _ s
  | _ => rfl

theorem loadOperand_opCycles (o : Operand) (k : EffAddr) (s : State) : (loadOperand o k s).2.opCycles = s.opCycles := by
  unfold loadOperand
  split
  · rfl
  · exact busRead_opCycles _ s
  · rfl

theorem jumpTarget_opCycles (o : Operand) (s : State) : (jumpTarget o s).opCycles = s.opCycles := by
  unfold jumpTarget
  dsimp only
  split <;> exact effAddr_opCycles o s

theorem push_opCycles (v : Byte) (s : State) : (push v s).opCycles = s.opCycles := by rw [push_eq]; rfl

theorem pushWord_opCycles (hi lo : Byte) (s : State) : (pushWord hi lo s).opCycles = s.opCycles :=
  (push_opCycles lo _).trans (push_opCycles hi s)

theorem pop_opCycles (s : State) : (pop s).2.opCycles = s.opCycles := busRead_opCycles _ _

theorem popWord_opCycles (s : State) : (popWord s).2.opCycles = s.opCycles := (pop_opCycles _).trans (pop_opCycles s)

theorem enterVector_opCycles (pcl st : Byte) (v : Addr) (s : State) : (enterVector pcl st v s).opCycles = s.opCycles :=
  (busRead16_opCycles _ _ _).trans ((push_opCycles st _).trans (pushWord_opCycles _ pcl s))

theorem returnFromVector_opCycles (s : State) : (returnFromVector s).opCycles = s.opCycles :=
  (popWord_opCycles _).trans (pop_opCycles s)

/-- Going from `s` to `t` adds cycles, `n` of them at most. -/
def AddsCycles (n : Nat) (s t : State) : Prop := s.opCycles ≤ t.opCycles ∧ t.opCycles ≤ s.opCycles + n

theorem AddsCycles.of_add {n k : Nat} {s t : State} (h : t.opCycles = s.opCycles + k) (hk : k ≤ n) : AddsCycles n s t := by
  unfold AddsCycles
  omega

theorem AddsCycles.of_eq {n : Nat} {s t : State} (h : t.opCycles = s.opCycles) : AddsCycles n s t :=
  .of_add (k := 0) h (Nat.zero_le n)

theorem AddsCycles.mono {m n : Nat} {s t : State} (h : AddsCycles m s t) (hmn : m ≤ n) : AddsCycles n s t :=
  ⟨h.1, h.2.trans (Nat.add_le_add_left hmn _)⟩

/-- A write adds the 513 cycles of OAM DMA at most (R166). -/
theorem store_addsCycles (a : Addr) (v : Byte) (s : State) : AddsCycles 513 s (store a v s) := by
  refine .of_add (k := if a = 0x4014#16 then 513 else 0) ?_ (by split <;> omega)
  rw [store_eq, State.addCycles_opCycles, busWrite_opCycles]

theorem storeOperand_addsCycles (k : EffAddr) (v : Byte) {s t : State} (h : t.opCycles = s.opCycles) :
    AddsCycles 513 s (storeOperand k v t) := by
  unfold AddsCycles
  rw [← h]
  unfold storeOperand
  split
  · exact store_addsCycles _ v t
  · exact AddsCycles.of_eq rfl

theorem writeOperand_addsCycles (o : Operand) (v : Byte) (s : State) : AddsCycles 513 s (writeOperand o v s) :=
  storeOperand_addsCycles _ v (effAddr_opCycles o s)

theorem modifyOperand_addsCycles (f : Byte → Byte → Byte × Byte) (o : Operand) (s : State) :
    AddsCycles 513 s (modifyOperand f o s).2 :=
  storeOperand_addsCycles _ _ ((loadOperand_opCycles o _ _).trans (effAddr_opCycles o s))

/-- A read adds the cycle of a crossed page at most (R164). -/
theorem readOperand_addsCycles (o : Operand) (s : State) : AddsCycles 1 s (readOperand o s).2 := by
  refine .of_add (k := (effAddr o s).1.crossed.toNat) ?_ (Bool.toNat_le _)
  rw [readOperand, loadOperand_opCycles, State.addCycles_opCycles, effAddr_opCycles]

theorem readAndDiscard_addsCycles (o : Operand) (s : State) : AddsCycles 1 s (readAndDiscard o s) := by
  refine .of_add (k := (effAddr o s).1.crossed.toNat) ?_ (Bool.toNat_le _)
  rw [← effAddr_opCycles o s, ← State.addCycles_opCycles]
  unfold readAndDiscard
  dsimp only
  split
  · split
    · exact busRead_opCycles _ _
    · rfl
  · rfl

/-- A branch adds one cycle when taken, two when its target lies on another page (R165, R250). -/
theorem branchIf_addsCycles (b : Bool) (d : Byte) (s : State) : AddsCycles 2 s (branchIf b d s) := by
  unfold branchIf
  split
  · exact .of_add (jumpTarget_opCycles _ _) (by split <;> omega)
  · exact .of_eq rfl

theorem branch_addsCycles {f : Byte → State → State} {s : State} (h : ∀ d, AddsCycles 2 s (f d s)) (o : Operand) :
    AddsCycles 2 s (match o with | .rel d => f d s | _ => s) := by
  split
  · exact h _
  · exact .of_eq rfl

/-- What an instruction adds to its base cycles, mnemonic by mnemonic (R163 to R166). -/
theorem meaning_addsCycles (m : Mnemonic) (o : Operand) (op : Byte) (s : State) : AddsCycles 513 s (meaning m o op s) := by
  cases m with
  | ora | and | eor | adc | sbc | usbc | bit | cmp | cpx | cpy | lda | ldx | ldy | lax =>
    exact (readOperand_addsCycles o s).mono (by decide)
  | dop | top => exact (readAndDiscard_addsCycles o s).mono (by decide)
  | sta | stx | sty | sax => exact writeOperand_addsCycles o _ s
  | asl | slo => exact modifyOperand_addsCycles shiftLeft o s
  | lsr | sre => exact modifyOperand_addsCycles shiftRight o s
  | rol | rla => exact modifyOperand_addsCycles rotateLeft o s
  | ror | rra => exact modifyOperand_addsCycles rotateRight o s
  | inc | isc => exact modifyOperand_addsCycles increment o s
  | dec | dcp => exact modifyOperand_addsCycles decrement o s
  | bpl | bmi | bvc | bvs | bcc | bcs | bne | beq =>
    exact (branch_addsCycles (fun d => branchIf_addsCycles _ d s) o).mono (by decide)
  | brk => exact .of_eq (enterVector_opCycles _ _ _ _)
  | rti => exact .of_eq (returnFromVector_opCycles s)
  | jsr => exact .of_eq ((jumpTarget_opCycles o _).trans (pushWord_opCycles _ _ s))
  | rts => exact .of_eq (popWord_opCycles s)
  | jmp => exact .of_eq (jumpTarget_opCycles o s)
  | pha | php => exact .of_eq (push_opCycles _ s)
  | pla | plp => exact .of_eq (pop_opCycles s)
  | _ => exact .of_eq rfl

/-- A service costs 7 cycles (R410). -/
theorem servicePending_opCycles {s t : State} (h : servicePending s = (true, t)) : t.opCycles = 7 := by
  unfold servicePending at h
  split at h
  · cases h
  · cases h; rfl
  · cases h; rfl
  · split at h
    · cases h
    · cases h; rfl

/-- Settles O7: a step is a service of 7 cycles, or an instruction of 2 to 8 base cycles that adds 513 at most. -/
theorem stepAnswersNext : Obligations.StepAnswersNext := by
  intro s
  refine ⟨_, step_eq s, ?_⟩
  unfold catchUp
  rw [executeCycles_opCycles]
  split
  next t hservice =>
    rw [servicePending_opCycles hservice]
    omega
  next t _ =>
    obtain ⟨hlow, hhigh⟩ := baseCycles_bounds (fetchInstr t).1.opcode
    obtain ⟨hmore, hmost⟩ := meaning_addsCycles (fetchInstr t).1.mnemonic (fetchInstr t).1.operand (fetchInstr t).1.opcode
      ((fetchInstr t).2.credit (fetchInstr t).1.opcode)
    rw [State.credit_opCycles] at hmore hmost
    omega

end Sys2Proof.Machine

/-! Proofs of the statements about addressing and the step (spec/40_addressing_modes.md): the thirteen address calculators, the
operand read, and the two ways a step begins. -/

namespace Sys2Proof.Machine

/-! Addresses as numbers -/

theorem addr_eq_ofNat {a : Addr} {n : Nat} (h : a.toNat = n) : a = BitVec.ofNat 16 n := by
  rw [← h, BitVec.ofNat_toNat, BitVec.setWidth_eq]

/-- A byte of page 0 as an effective address: no page is crossed (R153, R154). -/
theorem effAddr_zeroPage {b : Byte} {n : Nat} (h : b.toNat = n) :
    (⟨some (zeroPage b), false⟩ : EffAddr) = ⟨some (BitVec.ofNat 16 n), decide (n / 256 ≠ 0 / 256)⟩ := by
  have hpage : n / 256 = 0 := Nat.div_eq_of_lt (h ▸ b.isLt)
  rw [addr_eq_ofNat ((zeroPage_toNat b).trans h), hpage]
  rfl

/-- An effective address that is compared with a base: the pages are the quotients by 256 (R156, R165). -/
theorem effAddr_compared {base a : Addr} {n : Nat} (h : a.toNat = n) :
    (⟨some a, pageCrossed base a⟩ : EffAddr) = ⟨some (BitVec.ofNat 16 n), decide (n / 256 ≠ base.toNat / 256)⟩ := by
  have hcross : pageCrossed base a = decide (n / 256 ≠ base.toNat / 256) := by
    have hpage : hiByte base ≠ hiByte a ↔ n / 256 ≠ base.toNat / 256 := by
      rw [← BitVec.toNat_ne_iff_ne, hiByte_toNat, hiByte_toNat, h, ne_comm]
    rw [Bool.eq_iff_iff, pageCrossed, bne_iff_ne, decide_eq_true_iff, hpage]
  rw [hcross, ← addr_eq_ofNat h]

/-- An indexed address wraps at 65536 (R156, R159). -/
theorem indexed_toNat (a : Addr) (i : Byte) : (a + i.setWidth 16).toNat = (a.toNat + i.toNat) % 65536 := by
  have hi := i.isLt
  rw [BitVec.toNat_add, BitVec.toNat_setWidth, Nat.mod_eq_of_lt (a := i.toNat) (by omega)]

theorem effAddr_indexed {base : Addr} {n : Nat} (i : Byte) (h : base.toNat = n) :
    (⟨some (base + i.setWidth 16), pageCrossed base (base + i.setWidth 16)⟩ : EffAddr) =
      ⟨some (BitVec.ofNat 16 ((n + i.toNat) % 65536)), decide ((n + i.toNat) % 65536 / 256 ≠ n / 256)⟩ :=
  h ▸ effAddr_compared (indexed_toNat base i)

/-- A branch target wraps at 65536, its offset being signed (R161). -/
theorem relative_toNat (a : Addr) (d : Byte) :
    (a + sext8 d).toNat = (((a.toNat : Int) + d.toInt) % 65536).toNat := by
  rw [BitVec.toNat_add, sext8, BitVec.signExtend, BitVec.toNat_ofInt]
  omega

/-! Pointers -/

theorem zeroPage_plain (b : Byte) : ¬inPpuWindow (zeroPage b) := fun h => by
  have hb := zeroPage_lt b
  exact absurd h.1 (by omega)

theorem word16_eq_ofNat (hi lo : Byte) : word16 hi lo = BitVec.ofNat 16 (lo.toNat + 256 * hi.toNat) :=
  addr_eq_ofNat ((word16_toNat hi lo).trans (Nat.add_comm _ _))

/-- The word that the pointer at offset `k` of page 0 holds, its high byte at the next offset of the same page (R158, R159). -/
def zeroPageWord (k : Nat) (s : State) : Nat :=
  (busRead (BitVec.ofNat 16 k) s).1.toNat + 256 * (busRead (BitVec.ofNat 16 ((k + 1) % 256)) s).1.toNat

/-- A pointer in page 0 is read without side effects (R158, R159). -/
theorem busRead16_zeroPageWord {b : Byte} {k : Nat} (h : b.toNat = k) (s : State) :
    busRead16 (zeroPage b) (zeroPage (b + 1)) s = (BitVec.ofNat 16 (zeroPageWord k s), s) := by
  have hnext : (b + 1).toNat = (k + 1) % 256 := by rw [BitVec.toNat_add, h]; rfl
  rw [busRead16_plain (zeroPage_plain b) (zeroPage_plain (b + 1)), word16_eq_ofNat, zeroPageWord,
    addr_eq_ofNat ((zeroPage_toNat b).trans h), addr_eq_ofNat ((zeroPage_toNat (b + 1)).trans hnext)]

theorem zeroPageWord_toNat (k : Nat) (s : State) : (BitVec.ofNat 16 (zeroPageWord k s)).toNat = zeroPageWord k s := by
  have hlo := (busRead (BitVec.ofNat 16 k) s).1.isLt
  have hhi := (busRead (BitVec.ofNat 16 ((k + 1) % 256)) s).1.isLt
  rw [BitVec.toNat_ofNat, zeroPageWord]
  omega

/-- The high byte of the pointer of JMP (IND) is on the page of its low byte (R157). -/
theorem samePageNext_eq_ofNat (a : Addr) :
    word16 (hiByte a) (loByte a + 1) = BitVec.ofNat 16 (256 * (a.toNat / 256) + (a.toNat + 1) % 256) := by
  apply addr_eq_ofNat
  rw [word16_toNat, hiByte_toNat, BitVec.toNat_add, loByte_toNat, show (1 : Byte).toNat = 1 from rfl]
  omega

/-- Settles O40: each mode is its calculator, with the addresses turned into numbers. -/
theorem effectiveAddress : Obligations.EffectiveAddress := by
  intro s byteAt is
  have hindex (b i : Byte) : (b + i).toNat = (b.toNat + i.toNat) % 256 := BitVec.toNat_add b i
  refine ⟨?impl, fun _ => rfl, fun b => ?zp, fun b => ?zpx, fun b => ?zpy, fun _ => rfl, fun a => ?absx, fun a => ?absy,
    fun b => ?indx, fun b => ?indy, fun d => ?rel, fun a => ?ind⟩
  case impl => rintro _ (rfl | rfl) <;> rfl
  case zp => exact congrArg (·, s) (effAddr_zeroPage rfl)
  case zpx => exact congrArg (·, s) (effAddr_zeroPage (hindex b s.x))
  case zpy => exact congrArg (·, s) (effAddr_zeroPage (hindex b s.y))
  case absx => exact congrArg (·, s) (effAddr_indexed s.x rfl)
  case absy => exact congrArg (·, s) (effAddr_indexed s.y rfl)
  case rel => exact congrArg (·, s) (effAddr_compared (relative_toNat s.pc d))
  case indx =>
    have hword := busRead16_zeroPageWord (hindex b s.x) s
    rw [effAddr, hword]
    rfl
  case indy =>
    have hword := busRead16_zeroPageWord (b := b) rfl s
    change effAddr (.indy b) s = _
    rw [effAddr, hword]
    exact congrArg (·, s) (effAddr_indexed s.y (zeroPageWord_toNat b.toNat s))
  case ind =>
    rw [← samePageNext_eq_ofNat]
    intro lo hi
    rw [← word16_eq_ofNat]
    rfl

/-! The operand read -/

/-- The base cycles credited do not move the effective address (R162). -/
theorem effAddr_credit {o : Operand} (h : ∀ a, o ≠ .ind a) (op : Byte) (s : State) :
    (effAddr o (s.credit op)).1 = (effAddr o s).1 :=
  effAddr_congr o h rfl rfl rfl rfl

/-- Settles O41: an immediate is `readOperand_imm`, any other operand is the one bus read of `readOperand_some`. -/
theorem operandRead_eq : Obligations.OperandRead := by
  intro i s
  refine ⟨fun v hv => ?_, fun a ha hm hj => ?_⟩
  · rw [operandRead, hv, readOperand_imm]
    rfl
  · have hind := operand_ne_ind hj
    rw [effectiveAddr, ← effAddr_credit hind i.opcode] at ha ⊢
    rw [operandRead, readOperand_some hind hm ha]

/-! Fetching -/

/-- A fetch whose bytes are those of an instruction gives the instruction (R120, R150). -/
theorem fetchInstr_of_fetchBytes {i : Instr} {s t : State} (h : fetchBytes (encode i).length s = (encode i, t)) :
    fetchInstr s = (i, t) := by
  obtain ⟨hlen, hfit⟩ := Laws.Decodes.fitsMatrix i
  obtain ⟨hbytes, ht⟩ := Prod.mk.inj h
  obtain ⟨hop, hrest⟩ := List.cons.inj hbytes
  rw [hlen] at hrest ht
  rw [fetchInstr, hop, hrest, hfit]
  exact congrArg (i, ·) ht

/-- The byte that a bus read gives does not depend on PC. -/
theorem busRead_setPc (a pc : Addr) (s : State) : (busRead a (s.setPc pc)).1 = (busRead a s).1 := by
  obtain ⟨hbyte, -⟩ := busRead_of_same (a := a) (s := s) (t := s.setPc pc) ⟨rfl, rfl, rfl, rfl, rfl⟩
  exact hbyte

/-- Bytes that stand at PC outside the PPU window are fetched without side effects (R83, R150). -/
theorem fetchBytes_plain {bs : List Byte} {s : State}
    (h : ∀ k < bs.length, ¬inPpuWindow (s.pc + BitVec.ofNat 16 k) ∧
      bs[k]? = some (busRead (s.pc + BitVec.ofNat 16 k) s).1) :
    fetchBytes bs.length s = (bs, s.setPc (s.pc + BitVec.ofNat 16 bs.length)) := by
  induction bs generalizing s with
  | nil => rw [List.length_nil, BitVec.add_zero]; rfl
  | cons b bs ih =>
    obtain ⟨hplain, hb⟩ := h 0 (Nat.succ_pos _)
    rw [BitVec.add_zero] at hplain hb
    have hfetch : fetchByte s = (b, s.setPc (s.pc + 1)) := by
      rw [fetchByte, busRead_plain hplain, Option.some.inj hb]
    have hshift (k : Nat) : s.pc + 1 + BitVec.ofNat 16 k = s.pc + BitVec.ofNat 16 (k + 1) := by
      rw [BitVec.add_assoc, Nat.add_comm, BitVec.ofNat_add]
      rfl
    have hrest := ih (s := s.setPc (s.pc + 1)) fun k hk => by
      obtain ⟨hw, hv⟩ := h (k + 1) (Nat.succ_lt_succ hk)
      rw [State.setPc_pc, hshift, busRead_setPc]
      exact ⟨hw, hv⟩
    rw [State.setPc_pc, hshift] at hrest
    rw [List.length_cons, fetchBytes, hfetch, hrest]
    rfl

/-! The two ways a step begins -/

theorem step_of_service {s t : State} (h : servicePending s = (true, t)) : step s = .next (catchUp t) := by
  rw [step, h]
  rfl

theorem step_of_instr {s q t u : State} {i : Instr} (hq : servicePending s = (false, q)) (hf : fetchInstr q = (i, t))
    (hu : exec i t = .next u) : step s = .next (catchUp u) := by
  rw [step, hq]
  dsimp only
  rw [hf, hu]
  rfl

theorem servicePending_none {s : State} (h : s.pending = .none) : servicePending s = (false, s) := by
  rw [servicePending, h]

theorem servicePending_reset {s : State} (h : s.pending = .reset) : servicePending s = (true, serviceReset s) := by
  rw [servicePending, h]

theorem servicePending_nmi {s : State} (h : s.pending = .nmi) : servicePending s = (true, serviceNmi s) := by
  rw [servicePending, h]

theorem servicePending_irq {s : State} (h : s.pending = .irq) (hi : flagI s.p = false) :
    servicePending s = (true, serviceIrq s) := by
  rw [servicePending, h]
  exact if_neg (ne_true_of_eq_false hi)

theorem servicePending_masked {s : State} (h : s.pending = .irq) (hi : flagI s.p = true) :
    servicePending s = (false, maskedIrq s) := by
  rw [servicePending, h]
  exact if_pos hi

/-- A masked IRQ is kept or dropped (R413, D3). -/
theorem maskedIrq_eq_setPending (s : State) : ∃ q : Pending, (q = .irq ∨ q = .none) ∧ maskedIrq s = s.setPending q := by
  refine ⟨_, ?_, rfl⟩
  split
  · exact .inl rfl
  · exact .inr rfl

/-- Settles O5: bytes that decode are the instruction's encoding, so the fetch of a step gives it; outside the PPU window the
bytes at PC are what is fetched. -/
theorem stepRunsDecoded : Obligations.StepRunsDecoded := by
  intro s i hp
  have hq := servicePending_none hp
  refine ⟨fun bs t hf hd u hu => ?_, fun hbytes u hu => ?_⟩
  · obtain ⟨hencode, -⟩ := encodeOfDecode bs
    have hbs : bs = encode i := by rw [← hencode i [] hd, List.append_nil]
    exact step_of_instr hq (fetchInstr_of_fetchBytes (hbs ▸ hf)) hu
  · exact step_of_instr hq (fetchInstr_of_fetchBytes (fetchBytes_plain hbytes)) hu

/-- Settles O6: one equation of `servicePending` for each request, an IRQ by the I flag. -/
theorem stepServicesPending : Obligations.StepServicesPending := by
  intro s
  refine ⟨fun h => step_of_service (servicePending_reset h), fun h => step_of_service (servicePending_nmi h),
    fun h hi => step_of_service (servicePending_irq h hi), fun h hi => ?_⟩
  obtain ⟨q, hq, hmasked⟩ := maskedIrq_eq_setPending s
  exact ⟨q, hq, fun u hu => step_of_instr ((servicePending_masked h hi).trans (congrArg _ hmasked)) rfl hu⟩

end Sys2Proof.Machine

/-! Proofs of the statements about loads, stores, transfers and the stack (spec/41_load_store_transfer_stack.md). -/

namespace Sys2Proof.Machine

/-! N and Z of a result -/

/-- `SetNZ` on a P that differs from the old one at most in N, Z and the bits in `ks` (R14). -/
theorem flagsNZ_setNZ_of {ks : List Nat} {p q : Byte} (h : SameFlagsBut (1 :: 7 :: ks) p q) (v : Byte) :
    FlagsNZ ks v p (setNZ v q) := by
  refine ⟨setNZ_getLsbD v q 7, (setNZ_getLsbD v q 1).trans (beq_eq_decide v 0), fun k hk => ?_⟩
  have h1 : k ≠ 1 := fun e => hk (by simp [e])
  have h7 : k ≠ 7 := fun e => hk (by simp [e])
  rw [setNZ_getLsbD, if_neg h1, if_neg h7, h k hk]

theorem flagsNZ_setNZ (v p : Byte) : FlagsNZ [] v p (setNZ v p) := flagsNZ_setNZ_of (fun _ _ => rfl) v

/-! Transfers and register increments -/

/-- Settles O44: each is its meaning by `exec_eq`, and P is the old one or its `setNZ`. -/
theorem registerResult : Obligations.RegisterResult := fun s =>
  ⟨⟨_, exec_eq .tax s, flagsNZ_setNZ _ _⟩, ⟨_, exec_eq .tay s, flagsNZ_setNZ _ _⟩, ⟨_, exec_eq .txa s, flagsNZ_setNZ _ _⟩,
    ⟨_, exec_eq .tya s, flagsNZ_setNZ _ _⟩, ⟨_, exec_eq .tsx s, flagsNZ_setNZ _ _⟩, exec_eq .txs s,
    ⟨_, exec_eq .inx s, flagsNZ_setNZ _ _⟩, ⟨_, exec_eq .iny s, flagsNZ_setNZ _ _⟩, ⟨_, exec_eq .dex s, flagsNZ_setNZ _ _⟩,
    ⟨_, exec_eq .dey s, flagsNZ_setNZ _ _⟩⟩

/-! The meaning that a mnemonic names -/

theorem exec_of_mnemonic {i : Instr} {k : Mnemonic} (h : i.mnemonic = k) (s : State) :
    exec i s = .next (meaning k i.operand i.opcode (s.credit i.opcode)) := h ▸ exec_eq i s

/-! The frame of a read-type instruction -/

theorem operandRead_registers {i : Instr} (h : i.mnemonic ≠ .jmp) (s : State) : SameRegisters s (operandRead i s).2 := by
  obtain ⟨hregs, -⟩ := readOperand_frame i.operand (operand_ne_ind h) (s.credit i.opcode)
  exact hregs

/-- `SetNZ` after an operand read works on the P of before (R14, R163). -/
theorem operandRead_flagsNZ {i : Instr} (h : i.mnemonic ≠ .jmp) (v : Byte) (s : State) :
    FlagsNZ [] v s.p (setNZ v (operandRead i s).2.p) := by
  obtain ⟨-, -, hp⟩ := operandRead_registers h s
  rw [hp]
  exact flagsNZ_setNZ v s.p

/-- What reads memory once and then changes CPU registers alone has the frame of a read-type instruction (R163, R164). -/
theorem readsOnly_of_sameOutside {i : Instr} {s t : State} (h : i.mnemonic ≠ .jmp) (ho : SameOutside (operandRead i s).2 t)
    (hc : t.opCycles = (operandRead i s).2.opCycles) : ReadsOnly i s t := by
  have hind := operand_ne_ind h
  obtain ⟨-, hcycles, -, hcart, hram, -, hppu, hoam⟩ := readOperand_frame i.operand hind (s.credit i.opcode)
  have ⟨hram', hcart', hppu', _, _⟩ := ho
  refine ⟨ho, SameBytes.of_eq (hram'.trans hram) (hcart'.trans hcart), ⟨?_, ?_⟩, ?_⟩
  · rw [hcart', hppu']
    exact hppu
  · rw [hppu']
    exact hoam
  · rw [hc, effectiveAddr, ← effAddr_credit hind i.opcode]
    exact hcycles

/-! Loads -/

/-- Settles O42: the state after the operand read, with the byte read in the register and `setNZ` in P, has the frame of
`readsOnly_of_sameOutside`. -/
theorem loadResult : Obligations.LoadResult := by
  intro i s m
  have hframe {k : Mnemonic} (h : i.mnemonic = k) (hk : k ≠ .jmp) :
      SameRegisters s (operandRead i s).2 ∧ FlagsNZ [] m s.p (setNZ m (operandRead i s).2.p) ∧
        ∀ t, SameOutside (operandRead i s).2 t → t.opCycles = (operandRead i s).2.opCycles → ReadsOnly i s t :=
    have hj := h ▸ hk
    ⟨operandRead_registers hj s, operandRead_flagsNZ hj m s, fun _ => readsOnly_of_sameOutside hj⟩
  refine ⟨fun h => ?lda, fun h => ?ldx, fun h => ?ldy, fun h => ?lax⟩
  case lda =>
    obtain ⟨⟨hindex, -, -⟩, hnz, hread⟩ := hframe h (by decide)
    exact ⟨_, exec_of_mnemonic h s, rfl, hnz, hindex, hread _ ⟨rfl, rfl, rfl, rfl, rfl⟩ rfl⟩
  case ldx =>
    obtain ⟨⟨⟨-, hy, hsp, hpc⟩, ha, -⟩, hnz, hread⟩ := hframe h (by decide)
    exact ⟨_, exec_of_mnemonic h s, rfl, hnz, ha, hy, hsp, hpc, hread _ ⟨rfl, rfl, rfl, rfl, rfl⟩ rfl⟩
  case ldy =>
    obtain ⟨⟨⟨hx, -, hsp, hpc⟩, ha, -⟩, hnz, hread⟩ := hframe h (by decide)
    exact ⟨_, exec_of_mnemonic h s, rfl, hnz, ha, hx, hsp, hpc, hread _ ⟨rfl, rfl, rfl, rfl, rfl⟩ rfl⟩
  case lax =>
    obtain ⟨⟨⟨-, hy, hsp, hpc⟩, -, -⟩, hnz, hread⟩ := hframe h (by decide)
    exact ⟨_, exec_of_mnemonic h s, rfl, rfl, hnz, hy, hsp, hpc, hread _ ⟨rfl, rfl, rfl, rfl, rfl⟩ rfl⟩

/-! Stores -/

/-- The frame of a write speaks only of what is outside the CPU registers. -/
theorem StoresOnly.of_sameOutside {a : Addr} {v : Byte} {s t u : State} (h : StoresOnly a v s t) (ho : SameOutside t u) :
    StoresOnly a v s u := by
  obtain ⟨hstored, hbytes, hplain⟩ := h
  have hread (b : Addr) : (busRead b u).1 = (busRead b t).1 := (busRead_of_same ho).1
  obtain ⟨-, hcart, hppu, hpending, hfree⟩ := ho
  refine ⟨fun ha => (hread a).trans (hstored ha), fun b hb hs => (hread b).trans (hbytes b hb hs), fun hw hd => ?_⟩
  rw [SamePpuBytes, hcart, hppu, hpending, hfree]
  exact hplain hw hd

/-- A write leaves the CPU's registers and the cycle count (R71). -/
theorem busWrite_registers (a : Addr) (v : Byte) (s : State) :
    SameRegisters s (busWrite a v s).2 ∧ (busWrite a v s).2.opCycles = s.opCycles := by
  obtain ⟨m, u, r, c, q, k, heq⟩ := busWrite_changes a v s
  rw [heq]
  exact ⟨⟨⟨rfl, rfl, rfl, rfl⟩, rfl, rfl⟩, rfl⟩

/-- A store does outside the CPU registers what the bus write does from any state with the same outside. -/
theorem store_sameOutside {s t : State} (h : SameOutside s t) (a : Addr) (v : Byte) :
    SameOutside (busWrite a v s).2 (store a v t) := by
  rw [store_eq]
  exact busWrite_of_same h

/-- A store-type instruction is one write of its register's byte at its operand (R174, R175, R176, R284), and not JMP, so not
in mode IND. -/
theorem exec_store {i : Instr} {s : State} {v : Byte}
    (h : (i.mnemonic, v) ∈ [(.sta, s.a), (.stx, s.x), (.sty, s.y), (.sax, s.a &&& s.x)]) :
    exec i s = .next (writeOperand i.operand v (s.credit i.opcode)) ∧ i.mnemonic ≠ .jmp := by
  simp only [List.mem_cons, List.not_mem_nil, or_false, Prod.mk.injEq] at h
  obtain ⟨hm, rfl⟩ | ⟨hm, rfl⟩ | ⟨hm, rfl⟩ | ⟨hm, rfl⟩ := h <;>
    exact ⟨exec_of_mnemonic hm s, by rw [hm]; decide⟩

/-- Settles O43: the instruction is one `store` at the effective address, from the state with the base cycles credited. -/
theorem storeResult : Obligations.StoreResult := by
  intro i s v a hv ha
  obtain ⟨hexec, hj⟩ := exec_store hv
  have hind := operand_ne_ind hj
  rw [effectiveAddr, ← effAddr_credit hind i.opcode] at ha
  rw [writeOperand_some v hind ha] at hexec
  have hsame : SameOutside s (s.credit i.opcode) := ⟨rfl, rfl, rfl, rfl, rfl⟩
  have hout := store_sameOutside hsame a v
  obtain ⟨hregs, hcycles⟩ := busWrite_registers a v (s.credit i.opcode)
  refine ⟨_, hexec, hout, (busWrite_storesOnly a v s).of_sameOutside hout, ?_, ?_⟩
  · rw [store_eq]
    exact hregs
  · rw [store_eq, State.addCycles_opCycles, hcycles]
    rfl

/-! Stack instructions -/

/-- The RAM after a push holds the byte at the stack address and every other byte as before (R27). -/
theorem storesOnly_stackAddr (v : Byte) (s : State) :
    StoresOnly (stackAddr s.sp) v s (s.setRam (s.ram.write (256 + s.sp.toNat) v)) := by
  have h := busWrite_storesOnly (stackAddr s.sp) v s
  rwa [busWrite_ram (stackAddr_lt s.sp), stackKey] at h

/-- A pop by an instruction, its base cycles credited (R27, R160). -/
theorem pop_credit (op : Byte) (s : State) :
    pop (s.credit op) = ((busRead (stackAddr (s.sp + 1)) s).1, (s.credit op).setSp (s.sp + 1)) :=
  Prod.ext (pop_credit_fst op s) (by rw [pop_eq]; rfl)

/-- Settles O45: a push or a pop by `push_eq` and `pop_credit`, the stack addresses turned into numbers. -/
theorem stackInstructions : Obligations.StackInstructions := by
  intro s top pulled
  have htop : top = stackAddr s.sp := stackAddr_eq_ofNat s.sp rfl
  have hpop (op : Byte) : pop (s.credit op) = (pulled, (s.credit op).setSp (s.sp + 1)) := by
    rw [pop_credit, ← stackAddr_eq_ofNat (s.sp + 1) (BitVec.toNat_add s.sp 1)]
    rfl
  refine ⟨⟨_, ?pha, htop ▸ storesOnly_stackAddr s.a s⟩, ⟨_, ?php, htop ▸ storesOnly_stackAddr _ s⟩,
    ⟨_, ?pla, flagsNZ_setNZ pulled s.p⟩, ?plp⟩
  case pha => exact (exec_eq .pha s).trans (congrArg _ (push_eq _ _))
  case php => exact (exec_eq .php s).trans (congrArg _ (push_eq _ _))
  case pla =>
    have hexec : exec .pla s = .next (opPla (s.credit 0x68)) := exec_eq .pla s
    rw [hexec, opPla, hpop]
    rfl
  case plp =>
    have hexec : exec .plp s = .next (opPlp (s.credit 0x28)) := exec_eq .plp s
    rw [hexec, opPlp, hpop]
    rfl

end Sys2Proof.Machine

/-! Proofs of the statements about arithmetic, logic, the bit test and compares (spec/42_alu_logic_compare.md). -/

namespace Sys2Proof.Machine

/-! Signs and sums -/

theorem getLsbD_seven (v : Byte) : v.getLsbD 7 = decide (128 ≤ v.toNat) :=
  (BitVec.msb_eq_getLsbD_last v).symm.trans (BitVec.msb_eq_decide v)

theorem and_0x80_ne_zero : ∀ v : Byte, ((v &&& 0x80#8) != 0) = v.getLsbD 7 := by decide

theorem adcResult_toNat (a m p : Byte) : (adcResult a m p).toNat = adcSum a m p % 256 := BitVec.toNat_ofNat _ _

/-- The sum overflows when A and M have one sign and the result the other, that is when the signed sum leaves -128..127 (R201). -/
theorem overflow_iff (a m p : Byte) :
    ((a ^^^ adcResult a m p) &&& ~~~(a ^^^ m) &&& 0x80#8) != 0 ↔
      a.toInt + m.toInt + (flagC p).toNat < -128 ∨ 127 < a.toInt + m.toInt + (flagC p).toNat := by
  have ha := a.isLt
  have hm := m.isLt
  have hc := (flagC p).toNat_le
  rw [and_0x80_ne_zero, BitVec.getLsbD_and, BitVec.getLsbD_not, BitVec.getLsbD_xor, BitVec.getLsbD_xor]
  simp only [getLsbD_seven, adcResult_toNat, adcSum, BitVec.toInt_eq_toNat_cond, Bool.and_eq_true, bne_iff_ne, ne_eq,
    decide_eq_decide, Bool.not_eq_true', bne_eq_false_iff_eq, decide_eq_true_eq]
  omega

/-! The flags of a sum -/

theorem adcFlags_flagN (a m p : Byte) : flagN (adcFlags a m p) = decide (128 ≤ adcSum a m p % 256) := by
  rw [flagN, adcFlags_getLsbD, if_neg (by decide), if_neg (by decide), setNZ_getLsbD, if_neg (by decide), if_pos rfl,
    getLsbD_seven, adcResult_toNat]

theorem adcFlags_flagZ (a m p : Byte) : flagZ (adcFlags a m p) = decide (adcSum a m p % 256 = 0) := by
  rw [flagZ, adcFlags_getLsbD, if_neg (by decide), if_neg (by decide), setNZ_getLsbD, if_pos rfl, beq_eq_decide,
    decide_eq_decide, BitVec.toNat_eq, adcResult_toNat]
  rfl

theorem adcFlags_flagC (a m p : Byte) : flagC (adcFlags a m p) = decide (255 < adcSum a m p) := by
  rw [flagC, adcFlags_getLsbD, if_neg (by decide), if_pos rfl]

theorem adcFlags_flagV (a m p : Byte) :
    flagV (adcFlags a m p) =
      decide (a.toInt + m.toInt + (flagC p).toNat < -128 ∨ 127 < a.toInt + m.toInt + (flagC p).toNat) := by
  rw [flagV, adcFlags_getLsbD, if_pos rfl, ← Bool.decide_coe (_ != _)]
  exact decide_eq_decide.2 (overflow_iff a m p)

theorem adcFlags_others (a m p : Byte) : SameFlagsBut [0, 1, 6, 7] p (adcFlags a m p) := by
  intro k hk
  simp only [List.mem_cons, List.not_mem_nil, or_false, not_or] at hk
  obtain ⟨h0, h1, h6, h7⟩ := hk
  rw [adcFlags_getLsbD, if_neg h6, if_neg h0, setNZ_getLsbD, if_neg h1, if_neg h7]

/-! Subtraction as the addition of the complement (R202) -/

theorem xor_0xFF (m : Byte) : m ^^^ 0xFF#8 = ~~~m := BitVec.xor_allOnes

theorem complement_toNat (m : Byte) : (m ^^^ 0xFF#8).toNat = 255 - m.toNat := by rw [xor_0xFF, BitVec.toNat_not]

theorem complement_toInt (m : Byte) : (m ^^^ 0xFF#8).toInt = -m.toInt - 1 := by
  have hm := m.isLt
  rw [BitVec.toInt_eq_toNat_cond, BitVec.toInt_eq_toNat_cond, complement_toNat]
  omega

theorem adcSum_complement (a m p : Byte) : (adcSum a (m ^^^ 0xFF#8) p : Int) = sbcDiff a m p + 256 := by
  have hm := m.isLt
  rw [adcSum, sbcDiff, complement_toNat]
  omega

theorem sbcResult_eq_adcResult (a m p : Byte) : sbcResult a m p = adcResult a (m ^^^ 0xFF#8) p := by
  have hsum := adcSum_complement a m p
  apply BitVec.eq_of_toNat_eq
  rw [sbcResult, adcResult_toNat, BitVec.toNat_ofInt]
  omega

theorem sbcFlags_eq_adcFlags (a m p : Byte) : sbcFlags a m p = adcFlags a (m ^^^ 0xFF#8) p := by
  have hsum := adcSum_complement a m p
  have hcarry : (0 ≤ sbcDiff a m p) ↔ adcSum a (m ^^^ 0xFF#8) p > 0xFF := by omega
  have hover : (a ^^^ m) &&& (a ^^^ sbcResult a m p) = (a ^^^ sbcResult a m p) &&& ~~~(a ^^^ (m ^^^ 0xFF#8)) := by
    rw [xor_0xFF, BitVec.and_comm, BitVec.not_xor_right, BitVec.not_not]
  rw [sbcFlags, adcFlags, hover, sbcResult_eq_adcResult]
  simp only [hcarry]

theorem subFromA_eq_addToA (m : Byte) (s : State) : subFromA m s = addToA (m ^^^ 0xFF#8) s := by
  rw [subFromA, addToA, sbcResult_eq_adcResult, sbcFlags_eq_adcFlags]

theorem sbcResult_toNat (a m p : Byte) : ((sbcResult a m p).toNat : Int) = sbcDiff a m p % 256 := by
  rw [sbcResult, BitVec.toNat_ofInt]
  omega

theorem sbcFlags_flagN (a m p : Byte) : flagN (sbcFlags a m p) = decide (128 ≤ sbcDiff a m p % 256) := by
  have hsum := adcSum_complement a m p
  rw [sbcFlags_eq_adcFlags, adcFlags_flagN, decide_eq_decide]
  omega

theorem sbcFlags_flagZ (a m p : Byte) : flagZ (sbcFlags a m p) = decide (sbcDiff a m p % 256 = 0) := by
  have hsum := adcSum_complement a m p
  rw [sbcFlags_eq_adcFlags, adcFlags_flagZ, decide_eq_decide]
  omega

theorem sbcFlags_flagC (a m p : Byte) : flagC (sbcFlags a m p) = decide (0 ≤ sbcDiff a m p) := by
  have hsum := adcSum_complement a m p
  rw [sbcFlags_eq_adcFlags, adcFlags_flagC, decide_eq_decide]
  omega

theorem sbcFlags_flagV (a m p : Byte) :
    flagV (sbcFlags a m p) = decide (a.toInt - m.toInt - (1 - ((flagC p).toNat : Int)) < -128 ∨
      127 < a.toInt - m.toInt - (1 - ((flagC p).toNat : Int))) := by
  rw [sbcFlags_eq_adcFlags, adcFlags_flagV, complement_toInt, decide_eq_decide]
  omega

theorem sbcFlags_others (a m p : Byte) : SameFlagsBut [0, 1, 6, 7] p (sbcFlags a m p) := by
  rw [sbcFlags_eq_adcFlags]
  exact adcFlags_others a _ p

/-! The state after a read-type instruction -/

/-- A read-type instruction that changes A and P alone, after its read, has the frame of a read (R163, R164). -/
theorem operandRead_frame {i : Instr} (h : i.mnemonic ≠ .jmp) (a p : Byte) (s : State) :
    SameIndexPc s (((operandRead i s).2.setA a).setP p) ∧ ReadsOnly i s (((operandRead i s).2.setA a).setP p) := by
  obtain ⟨hindex, -, -⟩ := operandRead_registers h s
  exact ⟨hindex, readsOnly_of_sameOutside h ⟨rfl, rfl, rfl, rfl, rfl⟩ rfl⟩

/-- An addition to A after an operand read, by the A and P of before (R201). -/
theorem addToA_operandRead {i : Instr} (h : i.mnemonic ≠ .jmp) (m : Byte) (s : State) :
    addToA m (operandRead i s).2 = ((operandRead i s).2.setA (adcResult s.a m s.p)).setP (adcFlags s.a m s.p) := by
  obtain ⟨-, ha, hp⟩ := operandRead_registers h s
  rw [addToA, ha, hp]

/-- A subtraction from A after an operand read, by the A and P of before (R202). -/
theorem subFromA_operandRead {i : Instr} (h : i.mnemonic ≠ .jmp) (m : Byte) (s : State) :
    subFromA m (operandRead i s).2 = ((operandRead i s).2.setA (sbcResult s.a m s.p)).setP (sbcFlags s.a m s.p) := by
  obtain ⟨-, ha, hp⟩ := operandRead_registers h s
  rw [subFromA, ha, hp]

/-- Settles O46: the state is the operand read's with `adcResult` in A and `adcFlags` in P. -/
theorem addResult : Obligations.AddResult := by
  intro i s h m c r
  have hj : i.mnemonic ≠ .jmp := h ▸ by decide
  obtain ⟨hindex, hread⟩ := operandRead_frame hj (adcResult s.a m s.p) (adcFlags s.a m s.p) s
  exact ⟨_, (exec_of_mnemonic h s).trans (congrArg _ (addToA_operandRead hj m s)), adcResult_toNat _ _ _, adcFlags_flagN _ _ _,
    adcFlags_flagZ _ _ _, adcFlags_flagC _ _ _, adcFlags_flagV _ _ _, adcFlags_others _ _ _, hindex, hread⟩

/-- Settles O47: the state is the operand read's with `sbcResult` in A and `sbcFlags` in P, which are those of ADC with the
complement. -/
theorem subtractResult : Obligations.SubtractResult := by
  intro i s h m b r
  have hj : i.mnemonic ≠ .jmp := by rcases h with h | h <;> exact h ▸ by decide
  have hexec : exec i s = .next (subFromA m (operandRead i s).2) := h.elim (exec_of_mnemonic · s) (exec_of_mnemonic · s)
  obtain ⟨hindex, hread⟩ := operandRead_frame hj (sbcResult s.a m s.p) (sbcFlags s.a m s.p) s
  rw [subFromA_operandRead hj] at hexec
  exact ⟨_, hexec, sbcResult_toNat _ _ _, sbcFlags_flagN _ _ _, sbcFlags_flagZ _ _ _, sbcFlags_flagC _ _ _,
    sbcFlags_flagV _ _ _, sbcFlags_others _ _ _, hindex, hread, sbcResult_eq_adcResult _ _ _, sbcFlags_eq_adcFlags _ _ _⟩

/-! Logic, bit test and compares -/

/-- Settles O49: `logicToA` after the operand read, with the A of before. -/
theorem logicResult : Obligations.LogicResult := by
  intro i s f h r
  have hj : i.mnemonic ≠ .jmp := by rcases h with ⟨h, -⟩ | ⟨h, -⟩ | ⟨h, -⟩ <;> exact h ▸ by decide
  obtain ⟨-, ha, hp⟩ := operandRead_registers hj s
  have hexec : exec i s = .next (logicToA (f (operandRead i s).2.a (operandRead i s).1) (operandRead i s).2) := by
    obtain ⟨h, rfl⟩ | ⟨h, rfl⟩ | ⟨h, rfl⟩ := h <;> exact exec_of_mnemonic h s
  obtain ⟨hindex, hread⟩ := operandRead_frame hj r (setNZ r s.p) s
  rw [ha, logicToA, hp] at hexec
  exact ⟨_, hexec, rfl, flagsNZ_setNZ r s.p, hindex, hread⟩

/-- A read-type instruction that changes P alone leaves A too. -/
theorem operandRead_setP_frame {i : Instr} (h : i.mnemonic ≠ .jmp) (p : Byte) (s : State) :
    ((operandRead i s).2.setP p).a = s.a ∧ SameIndexPc s ((operandRead i s).2.setP p) ∧
      ReadsOnly i s ((operandRead i s).2.setP p) := by
  obtain ⟨-, ha, -⟩ := operandRead_registers h s
  exact ⟨ha, operandRead_frame h (operandRead i s).2.a p s⟩

theorem bitFlags_others (a m p : Byte) : SameFlagsBut [1, 6, 7] p (bitFlags a m p) := by
  intro k hk
  simp only [List.mem_cons, List.not_mem_nil, or_false, not_or] at hk
  obtain ⟨h1, h6, h7⟩ := hk
  rw [bitFlags_getLsbD, if_neg h6, if_neg h7, if_neg h1]

/-- Settles O50: P is `bitFlags` of A and the byte read. -/
theorem bitResult : Obligations.BitResult := by
  intro i s h m
  have hj : i.mnemonic ≠ .jmp := h ▸ by decide
  obtain ⟨-, ha, hp⟩ := operandRead_registers hj s
  have hexec : exec i s = .next ((operandRead i s).2.setP (bitFlags (operandRead i s).2.a m (operandRead i s).2.p)) :=
    exec_of_mnemonic h s
  rw [ha, hp] at hexec
  exact ⟨_, hexec, (bitFlags_getLsbD s.a m s.p 1).trans (beq_eq_decide _ _), bitFlags_getLsbD s.a m s.p 7,
    bitFlags_getLsbD s.a m s.p 6, bitFlags_others _ _ _, operandRead_setP_frame hj _ s⟩

/-- N and Z of a compare are those of the difference; C is its own (R207). -/
theorem compareFlags_flagsNZ (r m p : Byte) : FlagsNZ [0] (r - m) p (compareFlags r m p) := by
  obtain ⟨hn, hz, hrest⟩ := flagsNZ_setNZ (r - m) p
  have hother {k : Nat} (h : k ≠ 0) : (compareFlags r m p).getLsbD k = (setNZ (r - m) p).getLsbD k := by
    rw [compareFlags_getLsbD, if_neg h]
  refine ⟨(hother (by decide)).trans hn, (hother (by decide)).trans hz, fun k hk => ?_⟩
  simp only [List.mem_cons, List.not_mem_nil, or_false, not_or] at hk
  obtain ⟨h1, h7, h0⟩ := hk
  rw [hother h0, hrest k (by simp [h1, h7])]

/-- A compare changes P alone, to the flags of its register against the operand (R207, R208, R209). -/
theorem exec_compare {i : Instr} {s : State} {r : Byte} (h : (i.mnemonic, r) ∈ [(.cmp, s.a), (.cpx, s.x), (.cpy, s.y)]) :
    i.mnemonic ≠ .jmp ∧ exec i s = .next ((operandRead i s).2.setP (compareFlags r (operandRead i s).1 s.p)) := by
  simp only [List.mem_cons, List.not_mem_nil, or_false, Prod.mk.injEq] at h
  have hj : i.mnemonic ≠ .jmp := by rcases h with ⟨h, -⟩ | ⟨h, -⟩ | ⟨h, -⟩ <;> exact h ▸ by decide
  obtain ⟨⟨hx, hy, -, -⟩, ha, hp⟩ := operandRead_registers hj s
  refine ⟨hj, ?_⟩
  rw [← hp]
  obtain ⟨h, rfl⟩ | ⟨h, rfl⟩ | ⟨h, rfl⟩ := h
  · rw [← ha]
    exact exec_of_mnemonic h s
  · rw [← hx]
    exact exec_of_mnemonic h s
  · rw [← hy]
    exact exec_of_mnemonic h s

/-- Settles O51: P is `compareFlags` of the register and the byte read. -/
theorem compareResult : Obligations.CompareResult := by
  intro i s r h m
  obtain ⟨hj, hexec⟩ := exec_compare h
  exact ⟨_, hexec, compareFlags_flagsNZ r m s.p, compareFlags_getLsbD r m s.p 0, operandRead_setP_frame hj _ s⟩

/-! P in the accesses of the CPU: what reads and writes memory, or finds an address, neither reads P nor changes it -/

theorem busRead_setP (a : Addr) (q : Byte) (s : State) : busRead a (s.setP q) = ((busRead a s).1, (busRead a s).2.setP q) := by
  obtain ⟨b1, b2, b3, b4, rb, v, k, heq⟩ := busRead_changes a s
  refine (busRead_outside a s (s.setP q)).trans ?_
  rw [heq]
  rfl

theorem busWrite_setP (a : Addr) (v q : Byte) (s : State) :
    busWrite a v (s.setP q) = ((busWrite a v s).1, (busWrite a v s).2.setP q) := by
  obtain ⟨m, u, r, c, w, k, heq⟩ := busWrite_changes a v s
  refine (busWrite_outside a v s (s.setP q)).trans ?_
  rw [heq]
  rfl

theorem store_setP (a : Addr) (v q : Byte) (s : State) : store a v (s.setP q) = (store a v s).setP q := by
  rw [store, busWrite_setP]
  rfl

theorem push_setP (v q : Byte) (s : State) : push v (s.setP q) = (push v s).setP q := by
  rw [push_eq, push_eq]
  rfl

theorem pushWord_setP (hi lo q : Byte) (s : State) : pushWord hi lo (s.setP q) = (pushWord hi lo s).setP q := by
  rw [pushWord, push_setP, push_setP]
  rfl

theorem pop_setP (q : Byte) (s : State) : pop (s.setP q) = ((pop s).1, (pop s).2.setP q) := by
  rw [pop_eq, pop_eq]
  rfl

theorem popWord_setP (q : Byte) (s : State) : popWord (s.setP q) = ((popWord s).1, (popWord s).2.setP q) := by
  rw [popWord_eq, popWord_eq]
  rfl

theorem busRead16_setP (a b : Addr) (q : Byte) (s : State) :
    busRead16 a b (s.setP q) = ((busRead16 a b s).1, (busRead16 a b s).2.setP q) := by
  simp only [busRead16, busRead_setP]

theorem effAddr_setP (o : Operand) (q : Byte) (s : State) :
    effAddr o (s.setP q) = ((effAddr o s).1, (effAddr o s).2.setP q) := by
  cases o with
  | ind _ | indx _ | indy _ =>
    rw [effAddr, busRead16_setP]
    rfl
  | _ => rfl

theorem loadOperand_setP (o : Operand) (k : EffAddr) (q : Byte) (s : State) :
    loadOperand o k (s.setP q) = ((loadOperand o k s).1, (loadOperand o k s).2.setP q) := by
  unfold loadOperand
  split
  · rfl
  · exact busRead_setP _ q s
  · rfl

theorem readOperand_setP (o : Operand) (q : Byte) (s : State) :
    readOperand o (s.setP q) = ((readOperand o s).1, (readOperand o s).2.setP q) := by
  rw [readOperand, effAddr_setP]
  exact loadOperand_setP o (effAddr o s).1 q ((effAddr o s).2.addCycles (effAddr o s).1.crossed.toNat)

theorem storeOperand_setP (k : EffAddr) (v q : Byte) (s : State) :
    storeOperand k v (s.setP q) = (storeOperand k v s).setP q := by
  unfold storeOperand
  split
  · exact store_setP _ v q s
  · rfl

theorem writeOperand_setP (o : Operand) (v q : Byte) (s : State) :
    writeOperand o v (s.setP q) = (writeOperand o v s).setP q := by
  rw [writeOperand, effAddr_setP]
  exact storeOperand_setP _ v q _

theorem jumpTarget_setP (o : Operand) (q : Byte) (s : State) : jumpTarget o (s.setP q) = (jumpTarget o s).setP q := by
  unfold jumpTarget
  rw [effAddr_setP]
  dsimp only
  split <;> rfl

theorem branchIf_setP (b : Bool) (d q : Byte) (s : State) : branchIf b d (s.setP q) = (branchIf b d s).setP q := by
  unfold branchIf
  rw [effAddr_setP]
  split
  · exact jumpTarget_setP (.rel d) q (s.addCycles (if (effAddr (.rel d) s).1.crossed then 2 else 1))
  · rfl

theorem readAndDiscard_setP (o : Operand) (q : Byte) (s : State) :
    readAndDiscard o (s.setP q) = (readAndDiscard o s).setP q := by
  unfold readAndDiscard
  rw [effAddr_setP]
  dsimp only
  split
  · split
    · exact congrArg Prod.snd (busRead_setP _ q ((effAddr o s).2.addCycles (effAddr o s).1.crossed.toNat))
    · rfl
  · rfl

/-! Flags of two values of P that differ in the same bits -/

theorem SameFlagsBut.putBit {ks : List Nat} {p q : Byte} (h : SameFlagsBut ks p q) {i : Nat} (hi : i < 8) (b : Bool) :
    SameFlagsBut ks (putBit p i b) (putBit q i b) := by
  intro k hk
  rw [putBit_getLsbD p hi, putBit_getLsbD q hi, h k hk]

theorem SameFlagsBut.setNZ {ks : List Nat} {p q : Byte} (h : SameFlagsBut ks p q) (v : Byte) :
    SameFlagsBut ks (setNZ v p) (setNZ v q) :=
  (h.putBit (by decide) _).putBit (by decide) _

theorem SameFlagsBut.compareFlags {ks : List Nat} {p q : Byte} (h : SameFlagsBut ks p q) (r m : Byte) :
    SameFlagsBut ks (compareFlags r m p) (compareFlags r m q) :=
  (h.setNZ _).putBit (by decide) _

theorem SameFlagsBut.bitFlags {ks : List Nat} {p q : Byte} (h : SameFlagsBut ks p q) (a m : Byte) :
    SameFlagsBut ks (bitFlags a m p) (bitFlags a m q) :=
  ((h.putBit (by decide) _).putBit (by decide) _).putBit (by decide) _

theorem putD_others (p : Byte) (d : Bool) : SameFlagsBut [3] p (putD p d) := by
  intro k hk
  rw [putD, putBit_getLsbD p (by decide), if_neg (by simpa using hk)]

theorem adcResult_congr {p q : Byte} (h : flagC q = flagC p) (a m : Byte) : adcResult a m q = adcResult a m p := by
  rw [adcResult, adcResult, adcSum, adcSum, h]

/-- ADC takes of P only the carry into its result and its flags (R201). -/
theorem SameFlagsBut.adcFlags {ks : List Nat} {p q : Byte} (h : SameFlagsBut ks p q) (hc : flagC q = flagC p) (a m : Byte) :
    SameFlagsBut ks (adcFlags a m p) (adcFlags a m q) := by
  rw [Machine.adcFlags, Machine.adcFlags, adcResult_congr hc, adcSum, adcSum, hc]
  exact ((h.setNZ _).putBit (by decide) _).putBit (by decide) _

/-- `f`, the computation of a read-modify-write, does not depend on D: its byte not at all, its P but for D itself. -/
def ModifyIgnoresD (f : Byte → Byte → Byte × Byte) : Prop :=
  ∀ (m p q : Byte), SameFlagsBut [3] p q → (f m q).1 = (f m p).1 ∧ SameFlagsBut [3] (f m p).2 (f m q).2

theorem shiftLeft_ignoresD : ModifyIgnoresD shiftLeft := fun _ _ _ h => ⟨rfl, h.putBit (by decide) _⟩

theorem shiftRight_ignoresD : ModifyIgnoresD shiftRight := fun _ _ _ h => ⟨rfl, h.putBit (by decide) _⟩

theorem rotateLeft_ignoresD : ModifyIgnoresD rotateLeft := fun m _ _ h =>
  ⟨congrArg (putBit (m <<< 1) 0) (h 0 (by decide)), h.putBit (by decide) _⟩

theorem rotateRight_ignoresD : ModifyIgnoresD rotateRight := fun m _ _ h =>
  ⟨congrArg (putBit (m >>> 1) 7) (h 0 (by decide)), h.putBit (by decide) _⟩

theorem increment_ignoresD : ModifyIgnoresD increment := fun _ _ _ h => ⟨rfl, h⟩

theorem decrement_ignoresD : ModifyIgnoresD decrement := fun _ _ _ h => ⟨rfl, h⟩

/-! Operations in which D plays no part -/

/-- From two states that differ in D at most, `f` reaches two states that differ in D at most (R211). -/
def IgnoresD (f : State → State) : Prop :=
  ∀ (s : State) (q : Byte), SameFlagsBut [3] s.p q → ∃ r, f (s.setP q) = (f s).setP r ∧ SameFlagsBut [3] (f s).p r

/-- What commutes with every update of P leaves P as it was: update P to its own value. -/
theorem p_eq_of_setP {f : State → State} (hf : ∀ q s, f (s.setP q) = (f s).setP q) (s : State) : (f s).p = s.p :=
  (congrArg State.p (hf s.p s) :)

theorem ignoresD_of_setP {f : State → State} (hf : ∀ q s, f (s.setP q) = (f s).setP q) : IgnoresD f := by
  intro s q h
  rw [← p_eq_of_setP hf s] at h
  exact ⟨q, hf q s, h⟩

theorem IgnoresD.comp {f g : State → State} (hg : IgnoresD g) (hf : IgnoresD f) : IgnoresD (fun s => g (f s)) := by
  intro s q h
  obtain ⟨r, heq, hr⟩ := hf s q h
  simp only [heq]
  exact hg (f s) r hr

/-- First what gives a value and neither reads P nor changes it, then an operation that uses the value. -/
theorem IgnoresD.after {α : Type} {f : State → α × State} {g : α → State → State}
    (hf : ∀ q s, f (s.setP q) = ((f s).1, (f s).2.setP q)) (hg : ∀ v, IgnoresD (g v)) :
    IgnoresD (fun s => g (f s).1 (f s).2) := by
  intro s q h
  rw [← p_eq_of_setP (f := fun s => (f s).2) (fun q s => congrArg Prod.snd (hf q s)) s] at h
  simp only [hf]
  exact hg _ _ q h

/-- A read-modify-write, then an operation that uses the byte it stored. -/
theorem IgnoresD.afterModify {f : Byte → Byte → Byte × Byte} {g : Byte → State → State} (hf : ModifyIgnoresD f)
    (hg : ∀ v, IgnoresD (g v)) (o : Operand) :
    IgnoresD (fun s => g (modifyOperand f o s).1 (modifyOperand f o s).2) := by
  have hmodify (k : EffAddr) (m : Byte) :
      IgnoresD (fun s => g (f m s.p).1 (storeOperand k (f m s.p).1 (s.setP (f m s.p).2))) := by
    intro s q h
    obtain ⟨hbyte, hflags⟩ := hf m s.p q h
    simp only [State.setP_p, hbyte]
    exact (hg _).comp (ignoresD_of_setP (storeOperand_setP k _)) (s.setP (f m s.p).2) _ hflags
  exact (IgnoresD.after (effAddr_setP o) fun k => .after (loadOperand_setP o k) (hmodify k) :)

theorem ignoresD_setPc (a : Addr) : IgnoresD (State.setPc · a) := ignoresD_of_setP fun _ _ => rfl

/-- A new value for P, whatever the old one was. -/
theorem ignoresD_setP (v : Byte) : IgnoresD (State.setP · v) := fun _ _ _ => ⟨v, rfl, fun _ _ => rfl⟩

theorem ignoresD_logicToA (f : Byte → Byte) : IgnoresD (fun s => logicToA (f s.a) s) := fun _ _ h => ⟨_, rfl, h.setNZ _⟩

theorem ignoresD_addToA (m : Byte) : IgnoresD (addToA m) := by
  intro s q h
  have hc : flagC q = flagC s.p := h 0 (by decide)
  refine ⟨adcFlags s.a m q, ?_, h.adcFlags hc s.a m⟩
  rw [addToA, State.setP_a, State.setP_p, adcResult_congr hc]
  rfl

theorem ignoresD_subFromA (m : Byte) : IgnoresD (subFromA m) := by
  rw [funext (subFromA_eq_addToA m)]
  exact ignoresD_addToA _

/-- A compare of a register. -/
theorem ignoresD_compare (reg : State → Byte) (hreg : ∀ q s, reg (s.setP q) = reg s) (m : Byte) :
    IgnoresD (fun s => s.setP (compareFlags (reg s) m s.p)) := by
  intro s q h
  simp only [hreg]
  exact ⟨_, rfl, h.compareFlags (reg s) m⟩

theorem ignoresD_bit (m : Byte) : IgnoresD (fun s => s.setP (bitFlags s.a m s.p)) := fun _ _ h => ⟨_, rfl, h.bitFlags _ _⟩

theorem ignoresD_setNZ (v : Byte) : IgnoresD (fun s => s.setP (setNZ v s.p)) := fun _ _ h => ⟨_, rfl, h.setNZ v⟩

theorem IgnoresD.branch {f : Byte → State → State} (hf : ∀ d, IgnoresD (f d)) (o : Operand) :
    IgnoresD (fun s => match o with | .rel d => f d s | _ => s) := by
  cases o with
  | rel d => exact hf d
  | _ => exact ignoresD_of_setP fun _ _ => rfl

/-- A branch on a flag other than D, or on its negation. -/
theorem ignoresD_branchIf {k : Nat} (hk : k ∉ [3]) (c : Bool → Bool) (d : Byte) :
    IgnoresD (fun s => branchIf (c (s.p.getLsbD k)) d s) := by
  intro s q h
  simp only [State.setP_p, h k hk]
  exact ignoresD_of_setP (branchIf_setP (c (s.p.getLsbD k)) d) s q h

/-- Registers loaded with a byte, and N and Z of it. -/
theorem ignoresD_load {set : State → Byte → State} (hset : ∀ v q s, set (s.setP q) v = (set s v).setP q) (v : Byte) :
    IgnoresD (fun s => (set s v).setP (setNZ v (set s v).p)) :=
  (ignoresD_setNZ v).comp (ignoresD_of_setP (hset v))

/-- D plays no part in any instruction but PHP and BRK, which push P (R211). -/
theorem meaning_ignoresD {m : Mnemonic} (hphp : m ≠ .php) (hbrk : m ≠ .brk) (o : Operand) (op : Byte) :
    IgnoresD (meaning m o op) := by
  cases m with
  | brk => exact absurd rfl hbrk
  | php => exact absurd rfl hphp
  | lda => exact .after (readOperand_setP o) fun m => ignoresD_logicToA (fun _ => m)
  | and => exact .after (readOperand_setP o) fun m => ignoresD_logicToA (· &&& m)
  | ora => exact .after (readOperand_setP o) fun m => ignoresD_logicToA (· ||| m)
  | eor => exact .after (readOperand_setP o) fun m => ignoresD_logicToA (· ^^^ m)
  | ldx => exact .after (readOperand_setP o) (ignoresD_load (set := State.setX) fun _ _ _ => rfl)
  | ldy => exact .after (readOperand_setP o) (ignoresD_load (set := State.setY) fun _ _ _ => rfl)
  | lax => exact .after (readOperand_setP o) (ignoresD_load (set := fun s v => (s.setA v).setX v) fun _ _ _ => rfl)
  | adc => exact .after (readOperand_setP o) ignoresD_addToA
  | sbc | usbc => exact .after (readOperand_setP o) ignoresD_subFromA
  | cmp => exact .after (readOperand_setP o) (ignoresD_compare State.a fun _ _ => rfl)
  | cpx => exact .after (readOperand_setP o) (ignoresD_compare State.x fun _ _ => rfl)
  | cpy => exact .after (readOperand_setP o) (ignoresD_compare State.y fun _ _ => rfl)
  | bit => exact .after (readOperand_setP o) ignoresD_bit
  | asl => exact .afterModify shiftLeft_ignoresD ignoresD_setNZ o
  | lsr => exact .afterModify shiftRight_ignoresD ignoresD_setNZ o
  | rol => exact .afterModify rotateLeft_ignoresD ignoresD_setNZ o
  | ror => exact .afterModify rotateRight_ignoresD ignoresD_setNZ o
  | inc => exact .afterModify increment_ignoresD ignoresD_setNZ o
  | dec => exact .afterModify decrement_ignoresD ignoresD_setNZ o
  | slo => exact .afterModify shiftLeft_ignoresD (fun m => ignoresD_logicToA (· ||| m)) o
  | rla => exact .afterModify rotateLeft_ignoresD (fun m => ignoresD_logicToA (· &&& m)) o
  | sre => exact .afterModify shiftRight_ignoresD (fun m => ignoresD_logicToA (· ^^^ m)) o
  | rra => exact .afterModify rotateRight_ignoresD ignoresD_addToA o
  | isc => exact .afterModify increment_ignoresD ignoresD_subFromA o
  | dcp => exact .afterModify decrement_ignoresD (ignoresD_compare State.a fun _ _ => rfl) o
  | sta => exact ignoresD_of_setP fun q s => writeOperand_setP o s.a q s
  | stx => exact ignoresD_of_setP fun q s => writeOperand_setP o s.x q s
  | sty => exact ignoresD_of_setP fun q s => writeOperand_setP o s.y q s
  | sax => exact ignoresD_of_setP fun q s => writeOperand_setP o (s.a &&& s.x) q s
  | dop | top => exact ignoresD_of_setP (readAndDiscard_setP o)
  | jmp => exact ignoresD_of_setP (jumpTarget_setP o)
  | jsr => exact (ignoresD_of_setP (jumpTarget_setP o)).comp (ignoresD_of_setP fun q s => pushWord_setP _ _ q s)
  | rts => exact .after popWord_setP fun a => ignoresD_setPc (a + 1)
  | rti => exact .after pop_setP fun v => .comp (.after popWord_setP ignoresD_setPc) (ignoresD_setP (pulledStatus v))
  | pha => exact ignoresD_of_setP fun q s => push_setP s.a q s
  | pla => exact .after pop_setP fun m => ignoresD_logicToA (fun _ => m)
  | plp => exact .after pop_setP fun v => ignoresD_setP (pulledStatus v)
  | bpl => exact .branch (ignoresD_branchIf (k := 7) (by decide) not) o
  | bmi => exact .branch (ignoresD_branchIf (k := 7) (by decide) id) o
  | bvc => exact .branch (ignoresD_branchIf (k := 6) (by decide) not) o
  | bvs => exact .branch (ignoresD_branchIf (k := 6) (by decide) id) o
  | bcc => exact .branch (ignoresD_branchIf (k := 0) (by decide) not) o
  | bcs => exact .branch (ignoresD_branchIf (k := 0) (by decide) id) o
  | bne => exact .branch (ignoresD_branchIf (k := 1) (by decide) not) o
  | beq => exact .branch (ignoresD_branchIf (k := 1) (by decide) id) o
  | clc | sec | cli | sei | cld | sed | clv => exact fun _ _ h => ⟨_, rfl, h.putBit (by decide) _⟩
  | tax | tay | txa | tya | tsx | inx | iny | dex | dey => exact fun _ _ h => ⟨_, rfl, h.setNZ _⟩
  | txs | nop | nop1 | unl => exact ignoresD_of_setP fun _ _ => rfl

/-- Settles O48: an instruction is its meaning from the state with the base cycles credited, in which D plays no part. -/
theorem decimalIgnored : Obligations.DecimalIgnored := by
  intro i s t d hphp hbrk hexec
  rw [exec_eq] at hexec
  cases hexec
  obtain ⟨q, heq, hq⟩ := meaning_ignoresD hphp hbrk i.operand i.opcode (s.credit i.opcode) _ (putD_others s.p d)
  exact ⟨q, (exec_eq i _).trans (congrArg _ heq), hq⟩

end Sys2Proof.Machine

/-! Proofs of the statements about shifts, rotates, increments and decrements (spec/43_shift_incdec.md). -/

namespace Sys2Proof.Machine

/-! What a read-modify-write computes, as numbers -/

/-- Setting a bit that is clear adds its weight. -/
theorem putBit_of_clear {b : Byte} {i : Nat} (hi : i < 8) (h : b.getLsbD i = false) (v : Bool) :
    putBit b i v = if v then b + 1#8 <<< i else b := by
  cases v with
  | true =>
    have hand : b &&& 1#8 <<< i = 0#8 := by
      rw [← BitVec.twoPow_eq, BitVec.and_twoPow, h]
      rfl
    rw [putBit, if_pos rfl, if_pos rfl, BitVec.add_eq_or_of_and_eq_zero _ _ hand]
  | false =>
    refine byte_eq_of_bits fun k _ => ?_
    rw [putBit_getLsbD b hi]
    split
    case isTrue hk => rw [hk, if_neg (by decide), h]
    case isFalse => rfl

/-- The computation `f` of a read-modify-write, from the byte `m` and the flags `p`: the byte of number `n`, the carry `out`, and
no other flag changed (R220). -/
def ModifyGives (f : Byte → Byte → Byte × Byte) (m p : Byte) (n : Nat) (out : Bool) : Prop :=
  (f m p).1 = BitVec.ofNat 8 n ∧ flagC (f m p).2 = out ∧ SameFlagsBut [0] p (f m p).2

/-- A byte computed together with a new carry. -/
theorem modifyGives_putC {f : Byte → Byte → Byte × Byte} {m p : Byte} {n : Nat} {out : Bool} (hp : (f m p).2 = putC p out)
    (h : (f m p).1.toNat = n % 256) : ModifyGives f m p n out := by
  refine ⟨BitVec.eq_of_toNat_eq (by rw [h, BitVec.toNat_ofNat]), ?_, fun k hk => ?_⟩
  · rw [hp, flagC, putC_getLsbD, if_pos rfl]
  · rw [hp, putC_getLsbD, if_neg (by simpa using hk)]

theorem getLsbD_zero_eq (m : Byte) : m.getLsbD 0 = decide (m.toNat % 2 = 1) := Nat.testBit_zero m.toNat

theorem shl_one_toNat (m : Byte) : (m <<< 1).toNat = 2 * m.toNat % 256 := by
  rw [BitVec.toNat_shiftLeft, Nat.shiftLeft_eq, Nat.mul_comm]

theorem shr_one_toNat (m : Byte) : (m >>> 1).toNat = m.toNat / 2 := by
  rw [BitVec.toNat_ushiftRight, Nat.shiftRight_one]

/-- ASL in numbers (R221). -/
theorem shiftLeft_gives (m p : Byte) : ModifyGives shiftLeft m p (2 * m.toNat % 256) (decide (128 ≤ m.toNat)) := by
  refine modifyGives_putC (congrArg (putC p) (getLsbD_seven m)) ?_
  rw [shiftLeft, shl_one_toNat, Nat.mod_mod]

/-- LSR in numbers (R222). -/
theorem shiftRight_gives (m p : Byte) : ModifyGives shiftRight m p (m.toNat / 2) (decide (m.toNat % 2 = 1)) := by
  have hm := m.isLt
  refine modifyGives_putC (congrArg (putC p) (getLsbD_zero_eq m)) ?_
  rw [shiftRight, shr_one_toNat]
  omega

/-- ROL in numbers, the carry entering at bit 0 (R223). -/
theorem rotateLeft_gives (m p : Byte) :
    ModifyGives rotateLeft m p ((2 * m.toNat + (flagC p).toNat) % 256) (decide (128 ≤ m.toNat)) := by
  refine modifyGives_putC (congrArg (putC p) (getLsbD_seven m)) ?_
  have hclear : (m <<< 1).getLsbD 0 = false := by simp
  rw [rotateLeft, putBit_of_clear (by decide) hclear]
  cases flagC p with
  | true =>
    rw [if_pos rfl, BitVec.toNat_add, shl_one_toNat]
    simp
  | false =>
    rw [if_neg (by decide), shl_one_toNat]
    simp

/-- ROR in numbers, the carry entering at bit 7 (R224). -/
theorem rotateRight_gives (m p : Byte) :
    ModifyGives rotateRight m p (m.toNat / 2 + 128 * (flagC p).toNat) (decide (m.toNat % 2 = 1)) := by
  have hm := m.isLt
  refine modifyGives_putC (congrArg (putC p) (getLsbD_zero_eq m)) ?_
  have hclear : (m >>> 1).getLsbD 7 = false := by simp
  rw [rotateRight, putBit_of_clear (by decide) hclear]
  cases flagC p with
  | true =>
    rw [if_pos rfl, BitVec.toNat_add, shr_one_toNat]
    rfl
  | false =>
    rw [if_neg (by decide), shr_one_toNat, Bool.toNat_false]
    omega

/-- INC in numbers, which keeps the carry (R225). -/
theorem increment_gives (m p : Byte) : ModifyGives increment m p ((m.toNat + 1) % 256) (flagC p) :=
  ⟨BitVec.eq_of_toNat_eq (by simp [increment, BitVec.toNat_add]), rfl, fun _ _ => rfl⟩

/-- DEC in numbers, which keeps the carry (R226). -/
theorem decrement_gives (m p : Byte) : ModifyGives decrement m p ((m.toNat + 255) % 256) (flagC p) :=
  ⟨BitVec.eq_of_toNat_eq (by simp [decrement, BitVec.toNat_sub, Nat.add_comm]), rfl, fun _ _ => rfl⟩

/-- The flags after `SetNZ` of the result: N and Z are its own and C is the bit shifted out (R14, R220). -/
theorem ModifyGives.flags {f : Byte → Byte → Byte × Byte} {m p : Byte} {n : Nat} {out : Bool} (h : ModifyGives f m p n out) :
    FlagsNZ [0] (BitVec.ofNat 8 n) p (setNZ (f m p).1 (f m p).2) ∧ flagC (setNZ (f m p).1 (f m p).2) = out := by
  obtain ⟨hbyte, hcarry, hothers⟩ := h
  rw [hbyte]
  refine ⟨flagsNZ_setNZ_of (fun k hk => hothers k fun h0 => hk ?_) _, ?_⟩
  · exact List.mem_cons_of_mem _ (List.mem_cons_of_mem _ h0)
  · rw [flagC, setNZ_getLsbD, if_neg (by decide), if_neg (by decide)]
    exact hcarry

/-! The accumulator forms -/

/-- Settles O52: each is `modifyNZ` of the accumulator, with the number and the carry of its own computation. -/
theorem shiftAccumulator : Obligations.ShiftAccumulator := by
  intro s c i n out h
  obtain ⟨f, hexec, hgives⟩ : ∃ f : Byte → Byte → Byte × Byte,
      exec i s = .next { s with a := (f s.a s.p).1, p := setNZ (f s.a s.p).1 (f s.a s.p).2, opCycles := 2 } ∧
        ModifyGives f s.a s.p n out := by
    obtain ⟨rfl, rfl, rfl⟩ | ⟨rfl, rfl, rfl⟩ | ⟨rfl, rfl, rfl⟩ | ⟨rfl, rfl, rfl⟩ := h
    · exact ⟨shiftLeft, exec_eq .aslAcc s, shiftLeft_gives _ _⟩
    · exact ⟨shiftRight, exec_eq .lsrAcc s, shiftRight_gives _ _⟩
    · exact ⟨rotateLeft, exec_eq .rolAcc s, rotateLeft_gives _ _⟩
    · exact ⟨rotateRight, exec_eq .rorAcc s, rotateRight_gives _ _⟩
  have hflags := hgives.flags
  obtain ⟨hbyte, -, -⟩ := hgives
  rw [hbyte] at hexec hflags
  exact ⟨_, hexec, hflags⟩

/-! The frame of a read-modify-write -/

/-- The mnemonics that read a byte of memory, compute a new one and write it back (R220 to R226, R286 to R291). -/
def modifyMnemonics : List Mnemonic := [.asl, .lsr, .rol, .ror, .inc, .dec, .dcp, .slo, .rla, .sre, .isc, .rra]

/-- The mnemonics with an immediate form (R152). -/
theorem mnemonic_of_imm {i : Instr} {v : Byte} (h : i.operand = .imm v) :
    i.mnemonic ∈ [.ora, .and, .eor, .adc, .dop, .ldy, .ldx, .lda, .cpy, .cmp, .cpx, .sbc, .usbc] := by
  cases i with
  | oraImm _ | andImm _ | eorImm _ | adcImm _ | dop80 _ | dop82 _ | dop89 _ | ldyImm _ | ldxImm _ | ldaImm _ | cpyImm _
  | dopC2 _ | cmpImm _ | cpxImm _ | dopE2 _ | sbcImm _ | usbc _ => simp [Instr.mnemonic, Instr.row]
  | _ => cases h

/-- No read-modify-write is in mode IND or takes an immediate. -/
theorem operand_of_modifyMnemonics {i : Instr} (h : i.mnemonic ∈ modifyMnemonics) :
    (∀ a, i.operand ≠ .ind a) ∧ ∀ v, i.operand ≠ .imm v := by
  have hapart : ∀ k ∈ modifyMnemonics,
      k ≠ .jmp ∧ k ∉ [.ora, .and, .eor, .adc, .dop, .ldy, .ldx, .lda, .cpy, .cmp, .cpx, .sbc, .usbc] := by decide
  obtain ⟨hjmp, himm⟩ := hapart _ h
  exact ⟨operand_ne_ind hjmp, fun v hv => himm (mnemonic_of_imm hv)⟩

/-- The read before a write stores nothing (R83). -/
theorem StoresOnly.of_busRead {a : Addr} {v : Byte} {s t : State} (h : StoresOnly a v (busRead a s).2 t) :
    StoresOnly a v s t := by
  obtain ⟨hstored, hbytes, hplain⟩ := h
  obtain ⟨hread, -⟩ := busRead_sameBytes a s
  refine ⟨hstored, fun b hb hs => (hbytes b hb hs).trans (hread b hb id), fun hw hd => ?_⟩
  have hs := hplain hw hd
  rwa [busRead_plain hw] at hs

/-- The frame of a read-modify-write leaves A and P free. -/
theorem ModifiesOnly.setA_setP {i : Instr} {a : Addr} {r : Byte} {s t : State} (h : ModifiesOnly i a r s t) (v q : Byte) :
    ModifiesOnly i a r s ((t.setA v).setP q) := by
  obtain ⟨hout, hstores, hindex, hcycles⟩ := h
  exact ⟨hout, hstores.of_sameOutside ⟨rfl, rfl, rfl, rfl, rfl⟩, hindex, hcycles⟩

/-- A store from a state that is, outside the CPU registers, as a read of the same address leaves it (R82, R220). -/
theorem store_modifiesOnly {i : Instr} {a : Addr} {s u : State} (r : Byte) (hread : SameOutside (busRead a s).2 u)
    (hindex : SameIndexPc s u) (hcycles : u.opCycles = baseCycles i.opcode) :
    ModifiesOnly i a r s (store a r u) ∧ (store a r u).a = u.a ∧ (store a r u).p = u.p := by
  have hout := store_sameOutside hread a r
  have hstores := ((busWrite_storesOnly a r (busRead a s).2).of_sameOutside hout).of_busRead
  obtain ⟨⟨⟨hx', hy', hsp', hpc'⟩, ha, hp⟩, hcycles'⟩ := busWrite_registers a r u
  obtain ⟨hx, hy, hsp, hpc⟩ := hindex
  rw [store_eq] at hout hstores ⊢
  refine ⟨⟨hout, hstores, ⟨hx'.trans hx, hy'.trans hy, hsp'.trans hsp, hpc'.trans hpc⟩, ?_⟩, ha, hp⟩
  rw [State.addCycles_opCycles, hcycles', hcycles, writeCycles]

/-- A read-modify-write in memory: the byte it stores, and the state it leaves (R82, R163, R220). -/
theorem modifyOperand_frame {i : Instr} {s : State} {a : Addr} (h : i.mnemonic ∈ modifyMnemonics)
    (ha : (effectiveAddr i s).ea = some a) (f : Byte → Byte → Byte × Byte) :
    ∃ t, modifyOperand f i.operand (s.credit i.opcode) = ((f (busRead a s).1 s.p).1, t) ∧
      ModifiesOnly i a (f (busRead a s).1 s.p).1 s t ∧ t.a = s.a ∧ t.p = (f (busRead a s).1 s.p).2 := by
  obtain ⟨hind, himm⟩ := operand_of_modifyMnemonics h
  rw [effectiveAddr, ← effAddr_credit hind i.opcode] at ha
  have hmodify := modifyOperand_some f hind himm ha
  obtain ⟨hbyte, hram, hcart, hppu, hpending, hfree⟩ :=
    busRead_of_same (a := a) (s := s) (t := s.credit i.opcode) ⟨rfl, rfl, rfl, rfl, rfl⟩
  obtain ⟨⟨hindex, hacc, -⟩, hcycles, -⟩ := busRead_registers a (s.credit i.opcode)
  rw [hbyte, State.credit_p] at hmodify
  obtain ⟨hframe, hta, htp⟩ := store_modifiesOnly (i := i) (f (busRead a s).1 s.p).1
    (u := (busRead a (s.credit i.opcode)).2.setP (f (busRead a s).1 s.p).2) ⟨hram, hcart, hppu, hpending, hfree⟩ hindex hcycles
  exact ⟨_, hmodify, hframe, hta.trans hacc, htp⟩

/-! The memory forms -/

/-- Settles O53: each is `modifyNZ` at its effective address, with the number and the carry of its own computation. -/
theorem modifyResult : Obligations.ModifyResult := by
  intro i s a n out m c ha h
  obtain ⟨f, hmem, hexec, hgives⟩ : ∃ f, i.mnemonic ∈ modifyMnemonics ∧
      exec i s = .next (modifyNZ f i.operand (s.credit i.opcode)) ∧ ModifyGives f (busRead a s).1 s.p n out := by
    obtain ⟨h, rfl, rfl⟩ | ⟨h, rfl, rfl⟩ | ⟨h, rfl, rfl⟩ | ⟨h, rfl, rfl⟩ | ⟨h, rfl, rfl⟩ | ⟨h, rfl, rfl⟩ := h
    · exact ⟨shiftLeft, by rw [h]; decide, exec_of_mnemonic h s, shiftLeft_gives _ _⟩
    · exact ⟨shiftRight, by rw [h]; decide, exec_of_mnemonic h s, shiftRight_gives _ _⟩
    · exact ⟨rotateLeft, by rw [h]; decide, exec_of_mnemonic h s, rotateLeft_gives _ _⟩
    · exact ⟨rotateRight, by rw [h]; decide, exec_of_mnemonic h s, rotateRight_gives _ _⟩
    · exact ⟨increment, by rw [h]; decide, exec_of_mnemonic h s, increment_gives _ _⟩
    · exact ⟨decrement, by rw [h]; decide, exec_of_mnemonic h s, decrement_gives _ _⟩
  obtain ⟨t, hmodify, hframe, hta, htp⟩ := modifyOperand_frame hmem ha f
  obtain ⟨hnz, hcarry⟩ := hgives.flags
  obtain ⟨hbyte, -, -⟩ := hgives
  rw [modifyNZ, hmodify, htp] at hexec
  exact ⟨_, hexec, hbyte ▸ hframe.setA_setP t.a _, hta, hnz, hcarry⟩

end Sys2Proof.Machine

/-! Proofs of the statements about control transfer and flag instructions (spec/44_control_flags.md), and about the return from
an interrupt entry (spec/60_exceptions.md). -/

namespace Sys2Proof.Machine

/-! Flag instructions -/

/-- Writing one flag (R260 to R266): it holds the value written and no other flag changes. -/
theorem putBit_sets {k : Nat} (hk : k < 8) (p : Byte) (b : Bool) :
    (putBit p k b).getLsbD k = b ∧ SameFlagsBut [k] p (putBit p k b) := by
  refine ⟨by rw [putBit_getLsbD p hk, if_pos rfl], fun j hj => ?_⟩
  rw [putBit_getLsbD p hk, if_neg (mt List.mem_singleton.mpr hj)]

/-- Settles O59: each flag instruction is `putBit` of its bit in P. -/
theorem flagResult : Obligations.FlagResult := by
  refine fun s => ⟨fun i k b h => ?_, exec_eq .nop s⟩
  obtain ⟨hk, hexec⟩ : k < 8 ∧ exec i s = .next { s with p := putBit s.p k b, opCycles := 2 } := by
    simp only [List.mem_cons, List.not_mem_nil, or_false, Prod.mk.injEq] at h
    obtain ⟨rfl, rfl, rfl⟩ | ⟨rfl, rfl, rfl⟩ | ⟨rfl, rfl, rfl⟩ | ⟨rfl, rfl, rfl⟩ | ⟨rfl, rfl, rfl⟩ | ⟨rfl, rfl, rfl⟩ |
      ⟨rfl, rfl, rfl⟩ := h <;> exact ⟨by decide, exec_eq _ s⟩
  exact ⟨_, hexec, putBit_sets hk s.p b⟩

/-! Branches -/

/-- The target of a branch as a number, wrapping at 65536 (R161). -/
def branchTarget (d : Byte) (s : State) : Nat := (((s.pc.toNat : Int) + d.toInt) % 65536).toNat

/-- The common rule of the branches: a taken one goes to its target, for one cycle more, or two where the page changes (R250,
R165). -/
theorem branchIf_eq (taken : Bool) (d : Byte) (s : State) :
    branchIf taken d s =
      if taken = true then
        { s with
          pc := BitVec.ofNat 16 (branchTarget d s)
          opCycles := s.opCycles + if branchTarget d s / 256 ≠ s.pc.toNat / 256 then 2 else 1 }
      else s := by
  have hcalc (t : State) : effAddr (.rel d) t =
      (⟨some (BitVec.ofNat 16 (branchTarget d t)), decide (branchTarget d t / 256 ≠ t.pc.toNat / 256)⟩, t) :=
    congrArg (·, t) (effAddr_compared (relative_toNat t.pc d))
  simp only [branchIf, jumpTarget, hcalc, decide_eq_true_eq]
  rfl

/-- A branch instruction is the common rule with the condition of its flag, from 2 base cycles (R251 to R258). -/
theorem exec_branch {i : Instr} {d : Byte} {s : State} {taken : Bool}
    (h : (i, taken) ∈ [(.bpl d, !flagN s.p), (.bmi d, flagN s.p), (.bvc d, !flagV s.p), (.bvs d, flagV s.p),
      (.bcc d, !flagC s.p), (.bcs d, flagC s.p), (.bne d, !flagZ s.p), (.beq d, flagZ s.p)]) :
    exec i s = .next (branchIf taken d (s.setCycles 2)) := by
  simp only [List.mem_cons, List.not_mem_nil, or_false, Prod.mk.injEq] at h
  obtain ⟨rfl, rfl⟩ | ⟨rfl, rfl⟩ | ⟨rfl, rfl⟩ | ⟨rfl, rfl⟩ | ⟨rfl, rfl⟩ | ⟨rfl, rfl⟩ | ⟨rfl, rfl⟩ | ⟨rfl, rfl⟩ := h <;> rfl

/-- Settles O58: the common rule, with the cycles added up. -/
theorem branchResult : Obligations.BranchResult := by
  intro d s i taken h target
  have hcycles : (2 + if target / 256 ≠ s.pc.toNat / 256 then 2 else 1) =
      if target / 256 ≠ s.pc.toNat / 256 then 4 else 3 := by
    split <;> rfl
  rw [exec_branch h, branchIf_eq, ← hcycles]
  rfl

/-! Pushes and pops of several bytes -/

/-- The stack address some bytes above S, as a number that wraps in page 1 (R27). -/
theorem stackAddr_add (x b : Byte) : BitVec.ofNat 16 (0x100 + (x.toNat + b.toNat) % 256) = stackAddr (x + b) :=
  stackAddr_eq_ofNat (x + b) (BitVec.toNat_add x b)

/-- Internal RAM with a byte written in page 1 (R27). -/
def writeStack (x v : Byte) (m : Memory) : Memory := m.write (256 + x.toNat) v

theorem read_writeStack (x y v : Byte) (m : Memory) :
    (writeStack x v m).read (256 + y.toNat) = if y = x then v else m.read (256 + y.toNat) := by
  simp only [writeStack, Memory.read_write, Nat.add_left_cancel_iff, BitVec.toNat_inj]

/-- A byte written in page 1 leaves every byte but those that share its place in RAM (R27, R72). -/
theorem writeStack_sameBytesBut (x v : Byte) (s : State) :
    SameBytesBut (storedBytes (stackAddr x)) s { s with ram := writeStack x v s.ram } := by
  obtain ⟨-, hbytes⟩ := busWrite_bytes (stackAddr x) v s
  rwa [busWrite_ram (stackAddr_lt x), stackKey] at hbytes

theorem SameBytesBut.trans {P Q : Addr → Prop} {s t u : State} (h : SameBytesBut P s t) (k : SameBytesBut Q t u) :
    SameBytesBut (fun b => P b ∨ Q b) s u := fun a ha hs => by
  obtain ⟨hp, hq⟩ := not_or.mp hs
  exact (k a ha hq).trans (h a ha hp)

/-- RAM after two pushes from S = `x` (R243). -/
def pushedTwo (hi lo x : Byte) (m : Memory) : Memory := writeStack (x - 1) lo (writeStack x hi m)

/-- RAM after three pushes from S = `x` (R415). -/
def pushedThree (hi lo status x : Byte) (m : Memory) : Memory := writeStack (x - 2) status (pushedTwo hi lo x m)

theorem pushWord_eq_pushedTwo (hi lo : Byte) (s : State) :
    pushWord hi lo s = { s with ram := pushedTwo hi lo s.sp s.ram, sp := s.sp - 2 } := by
  have hsp : s.sp - 1 - 1 = s.sp - 2 := BitVec.sub_sub s.sp 1 1
  rw [pushWord_eq, hsp]
  rfl

theorem push_pushWord_eq (hi lo status : Byte) (s : State) :
    push status (pushWord hi lo s) = { s with ram := pushedThree hi lo status s.sp s.ram, sp := s.sp - 3 } := by
  have hsp : s.sp - 2 - 1 = s.sp - 3 := BitVec.sub_sub s.sp 2 1
  rw [pushWord_eq_pushedTwo, push_eq]
  exact congrArg _ hsp

/-- Three pushes from S = `x` go to three places (R27). -/
theorem pushedPlaces_ne (x : Byte) : x ≠ x - 1 ∧ x ≠ x - 2 ∧ x - 1 ≠ x - 2 := by
  refine ⟨?_, ?_, ?_⟩ <;> bv_omega

/-- Where two pushes from S = `x` leave their bytes, and that they leave every other byte (R27, R243). -/
theorem pushedTwo_bytes (hi lo x : Byte) (s : State) :
    (pushedTwo hi lo x s.ram).read (256 + x.toNat) = hi ∧ (pushedTwo hi lo x s.ram).read (256 + (x - 1).toNat) = lo ∧
      SameBytesBut (fun b => storedBytes (stackAddr x) b ∨ storedBytes (stackAddr (x - 1)) b) s
        { s with ram := pushedTwo hi lo x s.ram } := by
  obtain ⟨h1, -, -⟩ := pushedPlaces_ne x
  refine ⟨?_, ?_, (writeStack_sameBytesBut x hi s).trans (writeStack_sameBytesBut (x - 1) lo _)⟩
  · rw [pushedTwo, read_writeStack, if_neg h1, read_writeStack, if_pos rfl]
  · rw [pushedTwo, read_writeStack, if_pos rfl]

/-- A state whose RAM has the three bytes pushed and whose S is three less, the PPU and the cartridge being the same (R415). -/
theorem pushesThree_of_ram {hi lo status : Byte} {s t : State} (hram : t.ram = pushedThree hi lo status s.sp s.ram)
    (hsp : t.sp = s.sp - 3) (hppu : t.ppu = s.ppu) (hcart : t.cart = s.cart) (hfree : t.freeReads = s.freeReads) :
    PushesThree hi lo status s t := by
  obtain ⟨-, h2, h3⟩ := pushedPlaces_ne s.sp
  obtain ⟨hhi, hlo, hbytes⟩ := pushedTwo_bytes hi lo s.sp s
  have hall : SameBytesBut _ s { s with ram := pushedThree hi lo status s.sp s.ram } :=
    hbytes.trans (writeStack_sameBytesBut (s.sp - 2) status { s with ram := pushedTwo hi lo s.sp s.ram })
  refine ⟨?_, ?_, ?_, hsp, fun b hb hs => ?_, hppu, hcart, hfree⟩
  · rw [busRead_stack, hram, pushedThree, read_writeStack, if_neg h2, hhi]
  · rw [busRead_stack, hram, pushedThree, read_writeStack, if_neg h3, hlo]
  · rw [busRead_stack, hram, pushedThree, read_writeStack, if_pos rfl]
  · rw [← hall b hb (mt or_assoc.mp hs)]
    exact busRead_value hb hram hcart

/-- Two pops, from page 1 above S (R244). -/
theorem popWord_eq_busRead (s : State) :
    popWord s = (word16 (busRead (stackAddr (s.sp + 2)) s).1 (busRead (stackAddr (s.sp + 1)) s).1, s.setSp (s.sp + 2)) := by
  have hsp : s.sp + 1 + 1 = s.sp + 2 := BitVec.add_assoc s.sp 1 1
  rw [popWord_eq, busRead_stack, busRead_stack, hsp]

/-! Jumps and subroutines -/

/-- What a word read leaves alone (R83). -/
theorem busRead16_frame (a b : Addr) (s : State) :
    SameBytes s (busRead16 a b s).2 ∧ SamePpuBytes s (busRead16 a b s).2 ∧ SameRegisters s (busRead16 a b s).2 := by
  obtain ⟨hbytes, hppu, hoam⟩ := busRead_sameBytes a s
  obtain ⟨hbytes', hppu', hoam'⟩ := busRead_sameBytes b (busRead a s).2
  obtain ⟨⟨⟨hx, hy, hsp, hpc⟩, ha, hp⟩, -⟩ := busRead_registers a s
  obtain ⟨⟨⟨hx', hy', hsp', hpc'⟩, ha', hp'⟩, -⟩ := busRead_registers b (busRead a s).2
  exact ⟨fun c hc h => (hbytes' c hc h).trans (hbytes c hc h),
    ⟨fun c => (hppu' c).trans (hppu c), fun k => (hoam' k).trans (hoam k)⟩,
    ⟨hx'.trans hx, hy'.trans hy, hsp'.trans hsp, hpc'.trans hpc⟩, ha'.trans ha, hp'.trans hp⟩

/-- Everything JMP through a pointer does: a word read, whose high byte comes from the pointer's own page (R242). -/
theorem exec_jmpInd (a : Addr) (s : State) :
    let word := busRead16 a (BitVec.ofNat 16 (256 * (a.toNat / 256) + (a.toNat + 1) % 256)) (s.credit 0x6C)
    exec (.jmpInd a) s = .next (word.2.setPc word.1) := by
  rw [← samePageNext_eq_ofNat]
  exact exec_eq (.jmpInd a) s

/-- Everything JSR does (R243). -/
theorem exec_jsr (a : Addr) (s : State) :
    exec (.jsr a) s = .next { s with
      ram := pushedTwo (hiByte (s.pc - 1)) (loByte (s.pc - 1)) s.sp s.ram, sp := s.sp - 2, pc := a, opCycles := 6 } := by
  have hexec : exec (.jsr a) s = .next (opJsr (.abs a) (s.credit 0x20)) := exec_eq (.jsr a) s
  rw [hexec, opJsr, pushWord_eq_pushedTwo]
  rfl

/-- Everything RTS does (R244). -/
theorem exec_rts (s : State) :
    exec .rts s = .next { s with
      sp := s.sp + 2, pc := word16 (busRead (stackAddr (s.sp + 2)) s).1 (busRead (stackAddr (s.sp + 1)) s).1 + 1
      opCycles := 6 } := by
  have hexec : exec .rts s = .next (opRts (s.credit 0x60)) := exec_eq .rts s
  rw [hexec, opRts, popWord_eq_busRead]
  simp only [busRead_stack]
  rfl

/-- Settles O56: the jumps by `exec_jmpInd`, `exec_jsr` and `exec_rts`, the addresses turned into numbers. -/
theorem jumpResult : Obligations.JumpResult := by
  intro a s pulled
  refine ⟨rfl, ?ind, ⟨_, exec_jsr a s, ?jsr⟩, ?rts⟩
  case ind =>
    intro lo hi
    obtain ⟨hbytes, hppu, hregs⟩ :=
      busRead16_frame a (BitVec.ofNat 16 (256 * (a.toNat / 256) + (a.toNat + 1) % 256)) (s.credit 0x6C)
    have hcredit : SameBytes s (s.credit 0x6C) := SameBytes.of_eq rfl rfl
    rw [← word16_eq_ofNat]
    exact ⟨exec_jmpInd a s, fun c hc h => (hbytes c hc h).trans (hcredit c hc h), hppu, hregs, busRead16_opCycles _ _ _⟩
  case jsr =>
    rw [busRead_stack, busRead_stack]
    exact pushedTwo_bytes _ _ s.sp s
  case rts =>
    have hpulled (b : Byte) : pulled b.toNat = (busRead (stackAddr (s.sp + b)) s).1 := by rw [← stackAddr_add]
    rw [exec_rts, ← hpulled 1, ← hpulled 2]
    rfl

/-! Entry through a vector, and return -/

/-- An address from 0x4000 up is outside the PPU window, and its byte depends on the cartridge alone (R70). -/
theorem busRead_high {a : Addr} (h : 0x4000 ≤ a.toNat) :
    ¬inPpuWindow a ∧ ∀ s t : State, t.cart = s.cart → (busRead a t).1 = (busRead a s).1 := by
  have hplain : ¬inPpuWindow a := fun hw => absurd hw.2 (Nat.not_lt_of_le h)
  have hram : ¬a.toNat < 0x2000 := by omega
  refine ⟨hplain, fun s t hcart => ?_⟩
  simp only [busRead_plain_eq hplain, plainByte, if_neg hram, hcart]

/-- Everything an entry through a vector does: three pushes, and PC from the vector, which they do not reach (R415, R416). -/
theorem enterVector_eq {v : Addr} (h0 : 0x4000 ≤ v.toNat) (h1 : 0x4000 ≤ (v + 1).toNat) (pcl status : Byte) (s : State) :
    enterVector pcl status v s = { s with
      ram := pushedThree (hiByte s.pc) pcl status s.sp s.ram, sp := s.sp - 3, pc := vectorWord v s } := by
  obtain ⟨hplain0, hread0⟩ := busRead_high h0
  obtain ⟨hplain1, hread1⟩ := busRead_high h1
  have hword (t : State) (hcart : t.cart = s.cart) : busRead16 v (v + 1) t = (vectorWord v s, t) := by
    rw [busRead16_plain hplain0 hplain1, hread0 s t hcart, hread1 s t hcart, vectorWord]
  have hcart : (push status (pushWord (hiByte s.pc) pcl s)).cart = s.cart := by rw [push_pushWord_eq]
  rw [enterVector, hword _ hcart, push_pushWord_eq]
  rfl

/-- Everything BRK does (R245). -/
theorem exec_brk (s : State) :
    exec .brk s = .next { s with
      ram := pushedThree (hiByte (s.pc + 1)) (loByte (s.pc + 1)) (s.p ||| 0x10#8) s.sp s.ram, sp := s.sp - 3
      pc := vectorWord 0xFFFE s, opCycles := 7 } := by
  have hexec : exec .brk s = .next (opBrk (s.credit 0x00)) := exec_eq .brk s
  obtain ⟨hplain0, -⟩ := busRead_high (a := 0xFFFE) (by decide)
  obtain ⟨hplain1, -⟩ := busRead_high (a := 0xFFFE + 1) (by decide)
  have hword : vectorWord 0xFFFE ((s.credit 0x00).setPc (s.pc + 1)) = vectorWord 0xFFFE s :=
    vectorWord_congr hplain0 hplain1 rfl rfl
  rw [hexec, opBrk, enterVector_eq (by decide) (by decide), ← hword]
  rfl

/-- Everything RTI does (R246). -/
theorem exec_rti (s : State) :
    exec .rti s = .next { s with
      sp := s.sp + 3, p := pulledStatus (busRead (stackAddr (s.sp + 1)) s).1
      pc := word16 (busRead (stackAddr (s.sp + 3)) s).1 (busRead (stackAddr (s.sp + 2)) s).1, opCycles := 6 } := by
  have hexec : exec .rti s = .next (returnFromVector (s.credit 0x40)) := exec_eq .rti s
  have h2 : s.sp + 1 + 1 = s.sp + 2 := BitVec.add_assoc s.sp 1 1
  have h3 : s.sp + 1 + 2 = s.sp + 3 := BitVec.add_assoc s.sp 1 2
  rw [hexec, returnFromVector, pop_credit, popWord_eq_busRead]
  simp only [busRead_stack, State.setP_sp, State.setSp_sp, h2, h3]
  rfl

/-- Settles O57: `exec_brk` and `exec_rti`, the stack addresses turned into numbers. -/
theorem breakAndReturn : Obligations.BreakAndReturn := by
  intro s pulled
  have hpulled (b : Byte) : pulled b.toNat = (busRead (stackAddr (s.sp + b)) s).1 := by rw [← stackAddr_add]
  refine ⟨⟨_, exec_brk s, pushesThree_of_ram rfl rfl rfl rfl rfl, rfl, rfl, rfl, rfl, rfl, rfl, rfl⟩, ?_⟩
  rw [exec_rti, ← hpulled 1, ← hpulled 2, ← hpulled 3]
  rfl

/-- RTI after three pushes takes back what they stored: S, the status byte and the word (R246, R425). -/
theorem exec_rti_of_pushesThree {hi lo status : Byte} {s u : State} (h : PushesThree hi lo status s u) :
    exec .rti u = .next { u with sp := s.sp, p := pulledStatus status, pc := word16 hi lo, opCycles := 6 } := by
  obtain ⟨hhi, hlo, hstatus, hsp, -⟩ := h
  have h1 : u.sp + 1 = s.sp - 2 := by rw [hsp]; bv_omega
  have h2 : u.sp + 2 = s.sp - 1 := by rw [hsp]; bv_omega
  have h3 : u.sp + 3 = s.sp := by rw [hsp, BitVec.sub_add_cancel]
  rw [exec_rti, h1, h2, h3, hhi, hlo, hstatus]

/-- Everything an NMI service does (R412). -/
theorem serviceNmi_eq (s : State) :
    serviceNmi s = { s with
      ram := pushedThree (hiByte s.pc) (loByte s.pc &&& 0xF0#8) (s.p &&& 0xEF#8) s.sp s.ram, sp := s.sp - 3
      pc := vectorWord 0xFFFA s, p := putBit s.p 3 false, opCycles := 7, pending := .none } := by
  rw [serviceNmi, enterVector_eq (by decide) (by decide)]
  rfl

/-- Everything an IRQ service does (R413). -/
theorem serviceIrq_eq (s : State) :
    serviceIrq s = { s with
      ram := pushedThree (hiByte s.pc) (loByte s.pc) (s.p &&& 0xEF#8) s.sp s.ram, sp := s.sp - 3
      pc := vectorWord 0xFFFE s, p := putBit (putBit s.p 3 false) 2 true, opCycles := 7, pending := .none } := by
  rw [serviceIrq, enterVector_eq (by decide) (by decide)]
  rfl

/-- The PC that an NMI entry saves has its low four bits clear (R412, D2). -/
theorem word16_masked (a : Addr) : word16 (hiByte a) (loByte a &&& 0xF0#8) = a &&& 0xFFF0#16 := by
  have hmask : word16 (hiByte a) (loByte a) &&& word16 0xFF 0xF0 = word16 (hiByte a &&& 0xFF) (loByte a &&& 0xF0#8) :=
    BitVec.and_append
  have hhi : hiByte a &&& 0xFF = hiByte a := BitVec.and_allOnes
  rw [hhi, word16_hi_lo] at hmask
  exact hmask.symm

/-- An entry's pushed P, with B clear or set, is pulled as P with B clear and bit 5 set (R246, D4). -/
theorem pulledStatus_pushed : ∀ p : Byte,
    pulledStatus (p &&& 0xEF#8) = (p &&& 0xEF#8) ||| 0x20#8 ∧ pulledStatus (p ||| 0x10#8) = (p &&& 0xEF#8) ||| 0x20#8 := by
  decide

/-- Settles O38: each entry is three pushes, which RTI takes back. -/
theorem returnAfterEntry : Obligations.ReturnAfterEntry := by
  intro s
  obtain ⟨hclear, hset⟩ := pulledStatus_pushed s.p
  refine ⟨?nmi, ?irq, ?brk⟩
  case nmi =>
    rw [serviceNmi_eq]
    exact ⟨_, exec_rti_of_pushesThree (s := s) (pushesThree_of_ram rfl rfl rfl rfl rfl), word16_masked s.pc, rfl, hclear⟩
  case irq =>
    rw [serviceIrq_eq]
    exact ⟨_, exec_rti_of_pushesThree (s := s) (pushesThree_of_ram rfl rfl rfl rfl rfl), word16_hi_lo s.pc, rfl, hclear⟩
  case brk =>
    exact ⟨_, _, exec_brk s, exec_rti_of_pushesThree (s := s) (pushesThree_of_ram rfl rfl rfl rfl rfl),
      word16_hi_lo (s.pc + 1), rfl, hset⟩

end Sys2Proof.Machine

/-! Proofs of the statements about the unofficial and the unlisted instructions (spec/45_unofficial.md). -/

namespace Sys2Proof.Machine

/-! Flags after the carry of a read-modify-write -/

/-- A flag computation that sets N, Z and C sets them alike from a P in which only the carry is new. -/
theorem FlagsNZ.of_newCarry {ks : List Nat} {v p q u : Byte} (h : FlagsNZ (0 :: ks) v q u) (hp : SameFlagsBut [0] p q) :
    FlagsNZ (0 :: ks) v p u := by
  obtain ⟨hn, hz, hothers⟩ := h
  exact ⟨hn, hz, fun k hk => (hothers k hk).trans (hp k fun h0 => hk (by simp [List.mem_singleton.mp h0]))⟩

/-- N and Z of an addition are those of its result; C and V are its own (R201). -/
theorem adcFlags_flagsNZ (a m p : Byte) : FlagsNZ [0, 6] (adcResult a m p) p (adcFlags a m p) := by
  obtain ⟨hn, hz, -⟩ := flagsNZ_setNZ (adcResult a m p) p
  have hnz {k : Nat} (h6 : k ≠ 6) (h0 : k ≠ 0) : (adcFlags a m p).getLsbD k = (setNZ (adcResult a m p) p).getLsbD k := by
    rw [adcFlags_getLsbD, if_neg h6, if_neg h0]
  refine ⟨(hnz (by decide) (by decide)).trans hn, (hnz (by decide) (by decide)).trans hz, fun k hk => ?_⟩
  have hsame : [0, 1, 6, 7] ⊆ [1, 7, 0, 6] := by decide
  exact adcFlags_others a m p k fun h => hk (hsame h)

/-- N and Z of a subtraction are those of its result (R202). -/
theorem sbcFlags_flagsNZ (a m p : Byte) : FlagsNZ [0, 6] (sbcResult a m p) p (sbcFlags a m p) := by
  rw [sbcResult_eq_adcResult, sbcFlags_eq_adcFlags]
  exact adcFlags_flagsNZ a _ p

/-- The bit that a right shift takes out, as a number. -/
theorem mod_two_eq_toNat (n : Nat) : n % 2 = (decide (n % 2 = 1)).toNat := by
  rcases Nat.mod_two_eq_zero_or_one n with h | h <;> rw [h] <;> rfl

/-! The read-modify-write that a combined instruction begins with -/

/-- A read-modify-write in memory whose computation is known as numbers: the byte stored, the state left, and its carry (R220). -/
theorem modifyOperand_gives {i : Instr} {s : State} {a : Addr} {f : Byte → Byte → Byte × Byte} {n : Nat} {out : Bool}
    (h : i.mnemonic ∈ modifyMnemonics) (ha : (effectiveAddr i s).ea = some a)
    (hgives : ModifyGives f (busRead a s).1 s.p n out) (hn : n < 256) :
    ∃ (r : Byte) (t : State), modifyOperand f i.operand (s.credit i.opcode) = (r, t) ∧ r.toNat = n ∧
      ModifiesOnly i a r s t ∧ t.a = s.a ∧ flagC t.p = out ∧ SameFlagsBut [0] s.p t.p := by
  obtain ⟨t, hmodify, hframe, hta, htp⟩ := modifyOperand_frame h ha f
  obtain ⟨hbyte, hcarry, hothers⟩ := hgives
  rw [← htp] at hcarry hothers
  exact ⟨_, t, hmodify, by rw [hbyte, BitVec.toNat_ofNat, Nat.mod_eq_of_lt hn], hframe, hta, hcarry, hothers⟩

/-! The combined instructions -/

/-- The common shape of SLO, RLA and SRE: a read-modify-write, then A combined by `g` with the byte stored (R288, R289, R290). -/
def modifyLogic (f : Byte → Byte → Byte × Byte) (g : Byte → Byte → Byte) (o : Operand) (s : State) : State :=
  let r := modifyOperand f o s
  logicToA (g r.2.a r.1) r.2

/-- What an instruction of that shape stores, computes and leaves, its read-modify-write being known as numbers. -/
theorem exec_modifyLogic {i : Instr} {s : State} {a : Addr} {f : Byte → Byte → Byte × Byte} {g : Byte → Byte → Byte}
    {n : Nat} {out : Bool} (h : i.mnemonic ∈ modifyMnemonics) (ha : (effectiveAddr i s).ea = some a)
    (hgives : ModifyGives f (busRead a s).1 s.p n out) (hn : n < 256)
    (hexec : exec i s = .next (modifyLogic f g i.operand (s.credit i.opcode))) :
    ∃ t, exec i s = .next t ∧ ∃ r : Byte, r.toNat = n ∧ ModifiesOnly i a r s t ∧
      t.a = g s.a r ∧ FlagsNZ [0] t.a s.p t.p ∧ flagC t.p = out := by
  obtain ⟨r, t, hmodify, hr, hframe, hta, hcarry, hothers⟩ := modifyOperand_gives h ha hgives hn
  rw [modifyLogic, hmodify, logicToA, hta] at hexec
  refine ⟨_, hexec, r, hr, hframe.setA_setP _ _, rfl, ?_, ?_⟩
  · exact (flagsNZ_setNZ_of (fun _ _ => rfl) (g s.a r)).of_newCarry hothers
  · exact (setNZ_getLsbD (g s.a r) t.p 0).trans hcarry

/-- Settles O54: SLO, RLA and SRE by `exec_modifyLogic`; DCP is a compare of the old A with the byte stored. -/
theorem combinedLogicResult : Obligations.CombinedLogicResult := by
  intro i s a m c ha
  have hm : m < 256 := (busRead a s).1.isLt
  refine ⟨fun h => ?dcp, fun h => ?slo, fun h => ?rla, fun h => ?sre⟩
  case dcp =>
    have hexec := exec_of_mnemonic h s
    obtain ⟨r, t, hmodify, hr, hframe, hta, -, hothers⟩ :=
      modifyOperand_gives (h ▸ by decide) ha (decrement_gives _ _) (by omega)
    rw [meaning, opDcp, hmodify] at hexec
    exact ⟨_, hexec, r, hr, hframe.setA_setP t.a _, hta, hta ▸ (compareFlags_flagsNZ t.a r t.p).of_newCarry hothers,
      hta ▸ compareFlags_getLsbD t.a r t.p 0⟩
  case slo =>
    exact exec_modifyLogic (g := (· ||| ·)) (h ▸ by decide) ha (shiftLeft_gives _ _) (by omega) (exec_of_mnemonic h s)
  case rla =>
    exact exec_modifyLogic (g := (· &&& ·)) (h ▸ by decide) ha (rotateLeft_gives _ _) (by omega) (exec_of_mnemonic h s)
  case sre =>
    exact exec_modifyLogic (g := (· ^^^ ·)) (h ▸ by decide) ha (shiftRight_gives _ _) (by omega) (exec_of_mnemonic h s)

/-- Settles O55: ISC subtracts with the old carry, which INC keeps; RRA adds with the bit that ROR shifts out. -/
theorem combinedArithmeticResult : Obligations.CombinedArithmeticResult := by
  intro i s a m ha
  have hm : m < 256 := (busRead a s).1.isLt
  refine ⟨fun h => ?isc, fun h => ?rra⟩
  case isc =>
    have hexec := exec_of_mnemonic h s
    obtain ⟨r, t, hmodify, hr, hframe, hta, hcarry, hothers⟩ :=
      modifyOperand_gives (h ▸ by decide) ha (increment_gives _ _) (by omega)
    rw [meaning, opIsc, hmodify, subFromA, hta] at hexec
    refine ⟨_, hexec, r, hr, hframe.setA_setP _ _, ?_⟩
    rw [← hcarry]
    exact ⟨sbcResult_toNat _ _ _, (sbcFlags_flagsNZ _ _ _).of_newCarry hothers, sbcFlags_flagC _ _ _, sbcFlags_flagV _ _ _⟩
  case rra =>
    have hc := (flagC s.p).toNat_le
    have hexec := exec_of_mnemonic h s
    obtain ⟨r, t, hmodify, hr, hframe, hta, hcarry, hothers⟩ :=
      modifyOperand_gives (h ▸ by decide) ha (rotateRight_gives _ _) (by omega)
    have hout : m % 2 = (flagC t.p).toNat := hcarry ▸ mod_two_eq_toNat m
    rw [meaning, opRra, hmodify, addToA, hta] at hexec
    refine ⟨_, hexec, r, hr, hframe.setA_setP _ _, ?_⟩
    rw [hout]
    exact ⟨adcResult_toNat _ _ _, (adcFlags_flagsNZ _ _ _).of_newCarry hothers, adcFlags_flagC _ _ _, adcFlags_flagV _ _ _⟩

/-! The no-operations -/

/-- A read whose value is discarded is one bus read at the effective address, with its page-crossing cycle (R281, R282, D6). -/
theorem readAndDiscard_some {o : Operand} {s : State} {a : Addr} (hind : ∀ a, o ≠ .ind a) (h : (effAddr o s).1.ea = some a) :
    readAndDiscard o s = (busRead a (s.addCycles (effAddr o s).1.crossed.toNat)).2 := by
  rw [readAndDiscard, effAddr_state o hind, h]
  rfl

/-- What a bus read leaves alone when the cycles are credited before it (R83). -/
theorem busRead_setCycles_frame (a : Addr) (n : Nat) (s : State) :
    SameRegisters s (busRead a (s.setCycles n)).2 ∧ SameOutside (busRead a s).2 (busRead a (s.setCycles n)).2 ∧
      SameBytes s (busRead a (s.setCycles n)).2 ∧ SamePpuBytes s (busRead a (s.setCycles n)).2 ∧
      (busRead a (s.setCycles n)).2.opCycles = n := by
  obtain ⟨-, hout⟩ := busRead_of_same (a := a) (s := s) (t := s.setCycles n) ⟨rfl, rfl, rfl, rfl, rfl⟩
  obtain ⟨hregs, hcycles, -, hram, hcart⟩ := busRead_registers a (s.setCycles n)
  obtain ⟨-, hppu⟩ := busRead_sameBytes a (s.setCycles n)
  exact ⟨hregs, hout, SameBytes.of_eq hram hcart, hppu, hcycles⟩

/-- DOP and TOP are that read and nothing else (R281, R282). -/
theorem exec_discard {i : Instr} {s : State} {a : Addr} (h : i.mnemonic = .dop ∨ i.mnemonic = .top)
    (ha : (effectiveAddr i s).ea = some a) :
    exec i s = .next (busRead a (s.setCycles (baseCycles i.opcode + (effectiveAddr i s).crossed.toNat))).2 := by
  have hexec : exec i s = .next (readAndDiscard i.operand (s.credit i.opcode)) :=
    h.elim (exec_of_mnemonic · s) (exec_of_mnemonic · s)
  have hind := operand_ne_ind (i := i) (by rcases h with h | h <;> exact h ▸ by decide)
  rw [effectiveAddr, ← effAddr_credit hind i.opcode] at ha ⊢
  rw [hexec, readAndDiscard_some hind ha]
  rfl

/-- NOP1 takes 2 cycles (R295, R124). -/
theorem baseCycles_of_nop1 {i : Instr} (h : i.mnemonic = .nop1) : baseCycles i.opcode = 2 := by
  cases i with
  | nop1x1A | nop1x3A | nop1x5A | nop1x7A | nop1xDA | nop1xFA => rfl
  | _ => cases h

/-- Settles O60: DOP and TOP by `exec_discard` with the frame of a bus read; NOP1 and UNL are their meanings. -/
theorem unofficialNopResult : Obligations.UnofficialNopResult := by
  intro i s
  refine ⟨fun h a ha => ?discard, fun h => ?nop1, fun h => ?unl⟩
  case discard => exact ⟨_, exec_discard h ha, busRead_setCycles_frame a _ s⟩
  case nop1 =>
    rw [← baseCycles_of_nop1 h]
    exact exec_of_mnemonic h s
  case unl => exact ⟨_, rfl, (Config.unlistedOperands i.opcode).isLt, exec_of_mnemonic h s⟩

end Sys2Proof.Machine

/-! Proofs of the statements about the PPU's registers (spec/47_ppu_registers.md), with the part of a frame that follows a
Status read. -/

namespace Sys2Proof.Machine

/-! Register accesses through the bus -/

/-- A write in the PPU window is a register write, without extra cycles (R73). -/
theorem busWrite_window {a : Addr} (h : inPpuWindow a) (v : Byte) (s : State) :
    busWrite a v s = (0, writeRegister (a.toNat % 8) v s) := by
  obtain ⟨h1, h2⟩ := h
  rw [busWrite, if_neg (by omega), if_pos h2, regIndex]

/-! Fields of `t` -/

/-- Bits from 15 up are 0 in every VRAM address. -/
theorem getLsbD_eq_of_lt {x y : VramAddr} {k : Nat} (h : k < 15 → x.getLsbD k = y.getLsbD k) :
    x.getLsbD k = y.getLsbD k := by
  by_cases hk : k < 15
  · exact h hk
  · rw [BitVec.getLsbD_of_ge _ _ (by omega), BitVec.getLsbD_of_ge _ _ (by omega)]

/-- A VRAM address as its high seven bits and its low byte. -/
theorem vramAddr_toNat (x : VramAddr) : x.toNat = 256 * (x.extractLsb' 8 7).toNat + (x.extractLsb' 0 8).toNat := by
  have hx := x.isLt
  simp only [BitVec.extractLsb'_toNat, Nat.shiftRight_eq_div_pow]
  omega

/-- `t` after a Ctrl write (R313). -/
def tAfterCtrl (v : Byte) (t : VramAddr) : VramAddr := (t &&& ~~~0x0C00#15) ||| ((v.setWidth 15 &&& 3#15) <<< 10)

theorem nametable_tAfterCtrl (v : Byte) (t : VramAddr) : nametable (tAfterCtrl v t) = v.setWidth 2 := by
  ext i hi
  interval_cases i <;> simp [nametable, tAfterCtrl]

theorem tAfterCtrl_getLsbD (v : Byte) (t : VramAddr) {k : Nat} (h10 : k ≠ 10) (h11 : k ≠ 11) :
    (tAfterCtrl v t).getLsbD k = t.getLsbD k := by
  refine getLsbD_eq_of_lt fun hk => ?_
  interval_cases k <;> simp [tAfterCtrl] at h10 h11 ⊢

/-- `t` after the first write to Scroll (R325). -/
def tAfterScrollX (v : Byte) (t : VramAddr) : VramAddr := (t &&& ~~~0x001F#15) ||| (v >>> 3).setWidth 15

theorem coarseX_tAfterScrollX (v : Byte) (t : VramAddr) : coarseX (tAfterScrollX v t) = (v >>> 3).setWidth 5 := by
  ext i hi
  interval_cases i <;> simp [coarseX, tAfterScrollX]

theorem tAfterScrollX_getLsbD (v : Byte) (t : VramAddr) {k : Nat} (h : 5 ≤ k) :
    (tAfterScrollX v t).getLsbD k = t.getLsbD k := by
  refine getLsbD_eq_of_lt fun hk => ?_
  interval_cases k <;> simp [tAfterScrollX]

/-- `t` after the second write to Scroll (R325). -/
def tAfterScrollY (v : Byte) (t : VramAddr) : VramAddr :=
  (t &&& ~~~0x73E0#15) ||| ((v.setWidth 15 &&& 7#15) <<< 12) ||| ((v >>> 3).setWidth 15 <<< 5)

theorem coarseY_tAfterScrollY (v : Byte) (t : VramAddr) : coarseY (tAfterScrollY v t) = (v >>> 3).setWidth 5 := by
  ext i hi
  interval_cases i <;> simp [coarseY, tAfterScrollY]

theorem fineY_tAfterScrollY (v : Byte) (t : VramAddr) : fineY (tAfterScrollY v t) = v.setWidth 3 := by
  ext i hi
  interval_cases i <;> simp [fineY, tAfterScrollY]

theorem coarseX_tAfterScrollY (v : Byte) (t : VramAddr) : coarseX (tAfterScrollY v t) = coarseX t := by
  ext i hi
  interval_cases i <;> simp [coarseX, tAfterScrollY]

theorem nametable_tAfterScrollY (v : Byte) (t : VramAddr) : nametable (tAfterScrollY v t) = nametable t := by
  ext i hi
  interval_cases i <;> simp [nametable, tAfterScrollY]

/-- The coarse field that a Scroll write sets, as a number (R325). -/
theorem scrollCoarse_toNat (v : Byte) : ((v >>> 3).setWidth 5).toNat = v.toNat / 8 := by
  have hv := v.isLt
  rw [BitVec.toNat_setWidth, BitVec.toNat_ushiftRight, Nat.shiftRight_eq_div_pow]
  omega

/-- `t` after the first write to VRAM Addr (R326). -/
def tAfterAddrHigh (v : Byte) (t : VramAddr) : VramAddr :=
  (t &&& 0x00FF#15) ||| ((v.setWidth 15 <<< 8) &&& 0x3F00#15)

theorem tAfterAddrHigh_low (v : Byte) (t : VramAddr) : (tAfterAddrHigh v t).extractLsb' 0 8 = t.extractLsb' 0 8 := by
  ext i hi
  interval_cases i <;> simp [tAfterAddrHigh]

theorem tAfterAddrHigh_high (v : Byte) (t : VramAddr) :
    (tAfterAddrHigh v t).extractLsb' 8 7 = (v.setWidth 6).setWidth 7 := by
  ext i hi
  interval_cases i <;> simp [tAfterAddrHigh]

theorem tAfterAddrHigh_toNat (v : Byte) (t : VramAddr) :
    (tAfterAddrHigh v t).toNat = t.toNat % 256 + 256 * (v.toNat % 64) := by
  rw [vramAddr_toNat, tAfterAddrHigh_low, tAfterAddrHigh_high]
  simp only [BitVec.extractLsb'_toNat, BitVec.toNat_setWidth, Nat.shiftRight_zero]
  omega

/-- `t` after the second write to VRAM Addr (R326). -/
def tAfterAddrLow (v : Byte) (t : VramAddr) : VramAddr := (t &&& 0x7F00#15) ||| v.setWidth 15

theorem tAfterAddrLow_low (v : Byte) (t : VramAddr) : (tAfterAddrLow v t).extractLsb' 0 8 = v := by
  ext i hi
  interval_cases i <;> simp [tAfterAddrLow]

theorem tAfterAddrLow_high (v : Byte) (t : VramAddr) : (tAfterAddrLow v t).extractLsb' 8 7 = t.extractLsb' 8 7 := by
  ext i hi
  interval_cases i <;> simp [tAfterAddrLow]

theorem tAfterAddrLow_toNat (v : Byte) (t : VramAddr) :
    (tAfterAddrLow v t).toNat = t.toNat / 256 * 256 + v.toNat := by
  have ht := vramAddr_toNat t
  rw [vramAddr_toNat, tAfterAddrLow_low, tAfterAddrLow_high]
  omega

/-! Ctrl, Mask, Status, OAMAddr and OAM Data -/

/-- A Ctrl write, with the request that it makes when it enables the NMI while VBL is set (R313, R335). -/
theorem writeCtrl_eq (v : Byte) (s : State) :
    writeCtrl v s = (s.setPpu { s.ppu with ctrl := v, t := tAfterCtrl v s.ppu.t }).setPending
      (if s.ppu.ctrl.getLsbD 7 = false ∧ v.getLsbD 7 = true ∧ s.ppu.vbl = true then s.pending.requestNmi
        else s.pending) := by
  by_cases h : s.ppu.ctrl.getLsbD 7 = false ∧ v.getLsbD 7 = true ∧ s.ppu.vbl = true
  · rw [if_pos h]
    exact if_pos h
  · rw [if_neg h]
    exact if_neg h

/-- Settles O23: `writeCtrl_eq` with the fields of `tAfterCtrl`; the other registers are their definitions. -/
theorem controlAndOamRegisters : Obligations.ControlAndOamRegisters := by
  intro a v s hw
  rw [busWrite_window hw, busRead_window hw]
  refine ⟨fun h => ?ctrl, fun h => ?mask, fun h => ?status, fun h => ?oamAddr, fun h => ?oamWrite, fun h => ?oamRead⟩ <;>
    rw [h]
  case ctrl =>
    refine ⟨tAfterCtrl v s.ppu.t, _, congrArg _ (writeCtrl_eq v s), ?_, fun k h10 h11 => tAfterCtrl_getLsbD v _ h10 h11, rfl⟩
    rw [nametable_tAfterCtrl, BitVec.toNat_setWidth]
  case mask => rfl
  case status => rfl
  case oamAddr => rfl
  case oamWrite => exact ⟨_, rfl, fun k => Memory.read_write _ _ k v⟩
  case oamRead => rfl

/-! Scroll and VRAM Addr -/

/-- The first write to Scroll (R325). -/
theorem writeScroll_first {s : State} (h : s.ppu.w = false) (v : Byte) :
    writeScroll v s = s.setPpu { s.ppu with fineX := v.setWidth 3, t := tAfterScrollX v s.ppu.t, w := true } := by
  rw [writeScroll, h]
  rfl

/-- The second write to Scroll (R325). -/
theorem writeScroll_second {s : State} (h : s.ppu.w = true) (v : Byte) :
    writeScroll v s = s.setPpu { s.ppu with t := tAfterScrollY v s.ppu.t, w := false } := by
  rw [writeScroll, h]
  rfl

/-- The first write to VRAM Addr (R326). -/
theorem writeVramAddr_first {s : State} (h : s.ppu.w = false) (v : Byte) :
    writeVramAddr v s = s.setPpu { s.ppu with t := tAfterAddrHigh v s.ppu.t, w := true } := by
  rw [writeVramAddr, h]
  rfl

/-- The second write to VRAM Addr (R326). -/
theorem writeVramAddr_second {s : State} (h : s.ppu.w = true) (v : Byte) :
    writeVramAddr v s =
      s.setPpu { s.ppu with t := tAfterAddrLow v s.ppu.t, v := tAfterAddrLow v s.ppu.t, w := false } := by
  rw [writeVramAddr, h]
  rfl

/-- Settles O24: the four writes, each with the fields of the `t` that it leaves. -/
theorem scrollAndAddressWrites : Obligations.ScrollAndAddressWrites := by
  intro a val s hw p
  rw [busWrite_window hw]
  refine ⟨fun h hf => ?scrollX, fun h hs => ?scrollY, fun h hf => ?addrHigh, fun h hs => ?addrLow⟩ <;> rw [h]
  case scrollX =>
    refine ⟨_, congrArg _ (writeScroll_first hf val), ?_, fun k hk => tAfterScrollX_getLsbD val _ hk⟩
    rw [coarseX_tAfterScrollX, scrollCoarse_toNat]
  case scrollY =>
    refine ⟨_, congrArg _ (writeScroll_second hs val), ?_, ?_, coarseX_tAfterScrollY val _, nametable_tAfterScrollY val _⟩
    · rw [coarseY_tAfterScrollY, scrollCoarse_toNat]
    · rw [fineY_tAfterScrollY, BitVec.toNat_setWidth]
  case addrHigh => exact ⟨_, congrArg _ (writeVramAddr_first hf val), tAfterAddrHigh_toNat val _⟩
  case addrLow => exact ⟨_, congrArg _ (writeVramAddr_second hs val), tAfterAddrLow_toNat val _⟩

/-! VRAM Data -/

/-- `v` after an access to register 7, modulo 0x8000 (R332). -/
def Ppu.nextV (p : Ppu) : VramAddr :=
  BitVec.ofNat 15 ((p.v.toNat + if p.ctrl.getLsbD 2 = true then 32 else 1) % 0x8000)

theorem Ppu.add_vramStep (p : Ppu) : p.v + p.vramStep = p.nextV := by
  apply BitVec.eq_of_toNat_eq
  rw [Ppu.vramStep, Ppu.nextV]
  split <;> simp

/-- The address of an access to register 7, as a number (R330, R331). -/
theorem Ppu.vAddr_toNat (p : Ppu) : p.vAddr.toNat = p.v.toNat % 0x4000 := BitVec.toNat_setWidth 14 p.v

theorem Ppu.vAddr_eq (p : Ppu) : p.vAddr = BitVec.ofNat 14 (p.v.toNat % 0x4000) := by
  rw [← Ppu.vAddr_toNat, BitVec.ofNat_toNat, BitVec.setWidth_eq]

/-- The nametable address below a palette address (R331). -/
theorem Ppu.vAddr_sub {p : Ppu} (h : 0x3F00 ≤ p.v.toNat % 0x4000) :
    p.vAddr - 0x1000 = BitVec.ofNat 14 (p.v.toNat % 0x4000 - 0x1000) := by
  apply BitVec.eq_of_toNat_eq
  rw [BitVec.toNat_sub, Ppu.vAddr_toNat, BitVec.toNat_ofNat, show (0x1000 : PpuAddr).toNat = 0x1000 from rfl]
  omega

/-- A write to the PPU's memory leaves Ctrl and `v`, so `v` moves on as it would have before (R106, R332). -/
theorem stepV_ppuWrite (c : Cartridge) (p : Ppu) (a : PpuAddr) (v : Byte) :
    (ppuWrite c p a v).2.stepV = { (ppuWrite c p a v).2 with v := p.nextV } := by
  rw [← Ppu.add_vramStep]
  unfold ppuWrite
  split
  · rfl
  split
  · unfold writeNametable
    split <;> rfl
  · rfl

/-- A write to VRAM Data (R330). -/
theorem writeVramData_eq (v : Byte) (s : State) :
    writeVramData v s =
      let r := ppuWrite s.cart s.ppu (BitVec.ofNat 14 (s.ppu.v.toNat % 0x4000)) v
      (s.setCart r.1).setPpu { r.2 with v := s.ppu.nextV } := by
  rw [writeVramData, Ppu.vAddr_eq]
  dsimp only
  rw [stepV_ppuWrite]

/-- A read of VRAM Data below the palette (R331). -/
theorem readVramData_buffered {s : State} (h : s.ppu.v.toNat % 0x4000 < 0x3F00) :
    readVramData s = (s.ppu.readBuffer, s.setPpu { s.ppu with
      readBuffer := ppuRead s.cart s.ppu (BitVec.ofNat 14 (s.ppu.v.toNat % 0x4000)), v := s.ppu.nextV }) := by
  rw [← Ppu.vAddr_toNat] at h
  rw [readVramData, if_pos h, ← Ppu.vAddr_eq, ← Ppu.add_vramStep]
  rfl

/-- A read of VRAM Data from the palette (R331). -/
theorem readVramData_palette {s : State} (h : 0x3F00 ≤ s.ppu.v.toNat % 0x4000) :
    readVramData s = (ppuRead s.cart s.ppu (BitVec.ofNat 14 (s.ppu.v.toNat % 0x4000)), s.setPpu { s.ppu with
      readBuffer := ppuRead s.cart s.ppu (BitVec.ofNat 14 (s.ppu.v.toNat % 0x4000 - 0x1000)), v := s.ppu.nextV }) := by
  have hpal : ¬s.ppu.vAddr.toNat < 0x3F00 := by rw [Ppu.vAddr_toNat]; exact Nat.not_lt.2 h
  rw [readVramData, if_neg hpal, ← Ppu.vAddr_sub h, ← Ppu.vAddr_eq, ← Ppu.add_vramStep]
  rfl

/-- Settles O25: `writeVramData_eq` and the two kinds of read. -/
theorem vramData : Obligations.VramData := by
  intro a val s hw h
  rw [busWrite_window hw, busRead_window hw, h]
  exact ⟨congrArg _ (writeVramData_eq val s), readVramData_buffered, readVramData_palette⟩

/-! The position within a frame -/

/-- What decides the positions of the dots to come: the position, the parity and `Mask.bgEnable` (R351). -/
structure Ppu.SameClock (p q : Ppu) : Prop extends p.SamePosition q where
  bgEnable : q.bgEnable = p.bgEnable

theorem executeDot_bgEnable (s : State) : (executeDot s).ppu.bgEnable = s.ppu.bgEnable := by
  obtain ⟨-, -, -, -, -, -, hmask, -⟩ := executeDot_frame s
  rw [Ppu.bgEnable, hmask, Ppu.bgEnable]

/-- States with the same clock have it after a dot as well. -/
theorem Ppu.SameClock.executeDot {s t : State} (h : s.ppu.SameClock t.ppu) :
    (executeDot s).ppu.SameClock (executeDot t).ppu := by
  have hpos := executeDot_position t
  rw [h.scanline, h.dot, h.oddFrame, h.bgEnable, ← executeDot_position s] at hpos
  simp only [Prod.mk.injEq] at hpos
  obtain ⟨hy, hd, ho⟩ := hpos
  exact ⟨⟨hy, hd, ho⟩, by rw [executeDot_bgEnable, executeDot_bgEnable, h.bgEnable]⟩

theorem Ppu.SameClock.executeCycles {s t : State} (h : s.ppu.SameClock t.ppu) (k : Nat) :
    (executeCycles k s).ppu.SameClock (executeCycles k t).ppu := by
  induction k generalizing s t with
  | zero => exact h
  | succ k ih => exact ih h.executeDot

theorem executeCycles_bgEnable (k : Nat) (s : State) : (executeCycles k s).ppu.bgEnable = s.ppu.bgEnable :=
  executeCycles_induct (P := fun u => u.ppu.bgEnable = s.ppu.bgEnable)
    (fun u hu => (executeDot_bgEnable u).trans hu) k s rfl

/-- The dots of a frame (R351, R393). -/
def Ppu.frameLength (p : Ppu) : Nat := if p.oddFrame = true ∧ p.bgEnable = true then 89341 else 89342

/-- From position (0, 0) the position counts the dots until the end of the frame: exactly up to dot 7160, where a short frame
leaves one out, and from below after it (R351, R393). -/
theorem position_of_frameStart {s : State} (h0 : s.ppu.position = 0) {k : Nat} (hk : k < s.ppu.frameLength) :
    k ≤ (executeCycles k s).ppu.position ∧ (k < 7160 → (executeCycles k s).ppu.position = k) ∧
      (executeCycles k s).ppu.dot < 341 ∧ (executeCycles k s).ppu.oddFrame = s.ppu.oddFrame := by
  obtain ⟨hlong, hshort⟩ := position_after s h0 k
  rw [Ppu.frameLength] at hk
  by_cases hs : s.ppu.oddFrame = true ∧ s.ppu.bgEnable = true
  · rw [if_pos hs] at hk
    obtain ⟨hpos, hdot, hodd⟩ := hshort hs (by omega)
    rw [hpos]
    exact ⟨by split <;> omega, fun h => if_pos h, hdot, hodd⟩
  · rw [if_neg hs] at hk
    obtain ⟨hpos, hdot, hodd⟩ := hlong hs (by omega)
    rw [hpos]
    exact ⟨Nat.le_refl k, fun _ => rfl, hdot, hodd⟩

/-- The same from any dot of scanline 0: these dots have the clock of the frame that started that many dots before. -/
theorem position_of_line0 {s : State} (hy : s.ppu.scanline = 0) (hd : s.ppu.dot < 341) {k : Nat}
    (hk : k + s.ppu.dot < s.ppu.frameLength) :
    k + s.ppu.dot ≤ (executeCycles k s).ppu.position ∧
      (k + s.ppu.dot < 7160 → (executeCycles k s).ppu.position = k + s.ppu.dot) := by
  let start : State := s.setPpu { s.ppu with dot := 0 }
  have h0 : start.ppu.position = 0 := by
    change 341 * s.ppu.scanline + 0 = 0
    rw [hy]
  have hlen : start.ppu.frameLength = s.ppu.frameLength := rfl
  have hclock : (executeCycles s.ppu.dot start).ppu.SameClock s.ppu := by
    obtain ⟨-, hpos, hdot, hodd⟩ := position_of_frameStart h0 (k := s.ppu.dot) (by omega)
    have hpos := hpos (by omega)
    rw [Ppu.position] at hpos
    exact ⟨⟨by omega, by omega, hodd.symm⟩, (executeCycles_bgEnable _ start).symm⟩
  have hsame := hclock.executeCycles k
  obtain ⟨hge, heq, -⟩ := position_of_frameStart h0 (k := s.ppu.dot + k) (by omega)
  rw [executeCycles_add] at hge heq
  rw [Ppu.position, hsame.scanline, hsame.dot, Nat.add_comm k]
  exact ⟨hge, heq⟩

/-! The VBL flag and the two suppressions in a dot -/

/-- `q` has the VBL flag and the suppressions of `p` (R42, R52). -/
structure Ppu.SameVbl (p q : Ppu) : Prop where
  vbl : q.vbl = p.vbl
  suppressVbl : q.suppressVbl = p.suppressVbl
  suppressNmi : q.suppressNmi = p.suppressNmi

theorem Ppu.SameVbl.refl (p : Ppu) : p.SameVbl p := ⟨rfl, rfl, rfl⟩

theorem Ppu.SameVbl.trans {p q r : Ppu} (h : p.SameVbl q) (k : q.SameVbl r) : p.SameVbl r :=
  ⟨k.vbl.trans h.vbl, k.suppressVbl.trans h.suppressVbl, k.suppressNmi.trans h.suppressNmi⟩

theorem evaluateFrom_sameVbl (k n : Nat) (p : Ppu) : p.SameVbl (evaluateFrom k n p) := by
  induction k generalizing n p with
  | zero => exact .refl p
  | succ k ih =>
    unfold evaluateFrom
    split
    · split
      · refine .trans ?_ (ih _ _)
        exact ⟨rfl, rfl, rfl⟩
      · exact ⟨rfl, rfl, rfl⟩
    · exact ih _ _

theorem spriteActions_sameVbl (c : Cartridge) (p : Ppu) : p.SameVbl (spriteActions c p) := by
  unfold spriteActions
  split
  · split
    · exact ⟨rfl, rfl, rfl⟩
    split
    · exact evaluateFrom_sameVbl 64 0 p
    split <;> exact ⟨rfl, rfl, rfl⟩
  · exact .refl p

theorem reloadAction_sameVbl (p : Ppu) : p.SameVbl (reloadAction p) := by
  unfold reloadAction
  split <;> exact ⟨rfl, rfl, rfl⟩

theorem pixelAction_sameVbl (p : Ppu) : p.SameVbl (pixelAction p) := by
  unfold pixelAction
  split <;> exact ⟨rfl, rfl, rfl⟩

theorem shiftAction_sameVbl (p : Ppu) : p.SameVbl (shiftAction p) := by
  unfold shiftAction
  split <;> exact ⟨rfl, rfl, rfl⟩

theorem fetchAction_sameVbl (c : Cartridge) (p : Ppu) : p.SameVbl (fetchAction c p) := by
  unfold fetchAction
  split <;> exact ⟨rfl, rfl, rfl⟩

theorem outputRow_ifVisible_sameVbl (p : Ppu) : p.SameVbl (if p.visibleLine = true then outputRow p else p) := by
  split <;> exact ⟨rfl, rfl, rfl⟩

theorem dot256_sameVbl (p : Ppu) : p.SameVbl (dot256 p) := by
  refine .trans ?_ (outputRow_ifVisible_sameVbl _)
  split <;> exact ⟨rfl, rfl, rfl⟩

theorem lateActions_sameVbl (p : Ppu) : p.SameVbl (lateActions p) := by
  unfold lateActions
  split
  · exact dot256_sameVbl p
  split
  · exact ⟨rfl, rfl, rfl⟩
  split <;> exact ⟨rfl, rfl, rfl⟩

/-- Of the actions of a dot only the flag actions touch the VBL flag and the suppressions (R371). -/
theorem executeDot_sameVbl (s : State) : (flagActions s.ppu).SameVbl (executeDot s).ppu := by
  rw [executeDot_eq, advanceDot_eq]
  exact (spriteActions_sameVbl s.cart _).trans ((reloadAction_sameVbl _).trans ((pixelAction_sameVbl _).trans
    ((shiftAction_sameVbl _).trans ((fetchAction_sameVbl s.cart _).trans ((lateActions_sameVbl _).trans
      ⟨rfl, rfl, rfl⟩)))))

/-- The VBL flag is set at (0, 0) only, and there only without its suppression (R352, R354). -/
theorem executeDot_vbl_false {s : State} (hv : s.ppu.vbl = false) (h : s.ppu.position = 0 → s.ppu.suppressVbl = true) :
    (executeDot s).ppu.vbl = false := by
  rw [(executeDot_sameVbl s).vbl, flagActions]
  split
  · next h0 =>
    have hsup := h (by rw [Ppu.position, h0.1, h0.2])
    simp only [vblankStart, hsup, hv, if_true]
  split
  · exact hv
  split
  · rfl
  split <;> exact hv

/-- The suppression of the NMI ends at (0, 2) only (R353). -/
theorem executeDot_suppressNmi {s : State} (hn : s.ppu.suppressNmi = true) (h : s.ppu.position ≠ 2) :
    (executeDot s).ppu.suppressNmi = true := by
  rw [(executeDot_sameVbl s).suppressNmi, flagActions]
  split
  · exact hn
  split
  · next h2 => exact absurd (by rw [Ppu.position, h2.1, h2.2]) h
  split
  · exact hn
  split <;> exact hn

/-- The NMI is requested at (0, 2) only, and there only without its suppression (R353). -/
theorem requestsNmi_false {p : Ppu} (h : p.position = 2 → p.suppressNmi = true) : p.requestsNmi = false := by
  by_cases h2 : p.scanline = 0 ∧ p.dot = 2
  · rw [Ppu.requestsNmi, h (by rw [Ppu.position, h2.1, h2.2]), Bool.not_true, Bool.and_false]
  · rw [Ppu.requestsNmi, decide_eq_false h2, Bool.false_and, Bool.false_and]

/-! The rest of a frame after a suppression -/

/-- With VBL suppressed at (0, 0), the VBL flag stays clear to the end of the frame (R321). -/
theorem vbl_false_of_suppressed {s : State} (h0 : s.ppu.position = 0) (hv : s.ppu.vbl = false)
    (hs : s.ppu.suppressVbl = true) {k : Nat} (hk : k ≤ s.ppu.frameLength) : (executeCycles k s).ppu.vbl = false := by
  induction k with
  | zero => exact hv
  | succ k ih =>
    rw [executeCycles_succ]
    refine executeDot_vbl_false (ih (by omega)) fun hpos => ?_
    obtain ⟨hge, -⟩ := position_of_frameStart h0 (k := k) (by omega)
    obtain rfl : k = 0 := by omega
    exact hs

/-- With the NMI suppressed at one of the first three dots, the suppression stands until (0, 2) (R321). -/
theorem suppressNmi_until_dot2 {s : State} (hy : s.ppu.scanline = 0) (hn : s.ppu.suppressNmi = true) {k : Nat}
    (hk : k + s.ppu.dot ≤ 2) : (executeCycles k s).ppu.suppressNmi = true := by
  have hlen : 3 ≤ s.ppu.frameLength := by rw [Ppu.frameLength]; split <;> omega
  induction k with
  | zero => exact hn
  | succ k ih =>
    rw [executeCycles_succ]
    refine executeDot_suppressNmi (ih (by omega)) ?_
    obtain ⟨-, hpos⟩ := position_of_line0 hy (by omega) (k := k) (by omega)
    rw [hpos (by omega)]
    omega

/-- So no dot of the rest of the frame requests the NMI (R321). -/
theorem requestsNmi_false_of_suppressed {s : State} (hy : s.ppu.scanline = 0) (hd : s.ppu.dot < 3)
    (hn : s.ppu.suppressNmi = true) {k : Nat} (hk : k + s.ppu.dot < s.ppu.frameLength) :
    (executeCycles k s).ppu.requestsNmi = false := by
  refine requestsNmi_false fun hpos => suppressNmi_until_dot2 hy hn ?_
  obtain ⟨hge, -⟩ := position_of_line0 hy (by omega) hk
  omega

/-! Status -/

/-- The bits of the byte that a Status read returns (R320, R42, D13). -/
theorem statusByte_bits (p : Ppu) :
    p.statusByte.getLsbD 7 = p.vbl ∧ p.statusByte.getLsbD 6 = p.sprite0Hit ∧ p.statusByte.getLsbD 5 = p.overflow ∧
      p.statusByte.toNat % 32 = 0 := by
  have h : ∀ x y z : Bool,
      let b : Byte := BitVec.ofBool x ++ BitVec.ofBool y ++ BitVec.ofBool z ++ statusLowBits
      b.getLsbD 7 = x ∧ b.getLsbD 6 = y ∧ b.getLsbD 5 = z ∧ b.toNat % 32 = 0 := by
    decide
  exact h p.vbl p.sprite0Hit p.overflow

/-- The PPU after a Status read (R320, R321, D18). -/
def Ppu.afterStatusRead (p : Ppu) : Ppu :=
  { p with
    vbl := false, w := false
    suppressVbl := p.suppressVbl || decide (p.position = 0)
    suppressNmi := p.suppressNmi || decide (p.scanline = 0 ∧ p.dot < 3) }

theorem readStatus_eq (s : State) : readStatus s = (s.ppu.statusByte, s.setPpu s.ppu.afterStatusRead) := by
  rw [readStatus, Ppu.afterStatusRead, Ppu.position]
  by_cases h0 : s.ppu.scanline = 0 ∧ s.ppu.dot = 0
  · rw [Ppu.suppress_vbl h0, decide_eq_true (by omega), decide_eq_true (by omega), Bool.or_true, Bool.or_true]
  rw [decide_eq_false (by omega : ¬341 * s.ppu.scanline + s.ppu.dot = 0), Bool.or_false]
  by_cases h12 : (s.ppu.scanline = 0 ∧ s.ppu.dot = 1) ∨ (s.ppu.scanline = 0 ∧ s.ppu.dot = 2)
  · rw [Ppu.suppress_nmi h12, decide_eq_true (by omega), Bool.or_true]
  · rw [Ppu.suppress_none (by omega), decide_eq_false (by omega), Bool.or_false]

/-- A Status read at (0, 0) suppresses VBL (R321). -/
theorem Ppu.afterStatusRead_suppressVbl {p : Ppu} (h : p.position = 0) : p.afterStatusRead.suppressVbl = true := by
  simp [Ppu.afterStatusRead, h]

/-- A Status read at one of the first three dots suppresses the NMI (R321). -/
theorem Ppu.afterStatusRead_suppressNmi {p : Ppu} (hy : p.scanline = 0) (hd : p.dot < 3) :
    p.afterStatusRead.suppressNmi = true := by
  simp [Ppu.afterStatusRead, hy, hd]

/-- Settles O22: the byte, the state after the read, and what its two suppressions do to the rest of the frame. -/
theorem statusRead : Obligations.StatusRead := by
  intro a s hw h p r n
  have hr : r = (p.statusByte, s.setPpu p.afterStatusRead) := by
    rw [← readStatus_eq, ← readRegister_2, ← h]
    exact busRead_window hw s
  obtain ⟨h7, h6, h5, hlow⟩ := statusByte_bits p
  rw [hr]
  refine ⟨h7, h6, h5, hlow, rfl, fun hy hd k hk => ?vbl, fun hy hd k hk => ?nmi⟩
  case vbl =>
    have h0 : p.position = 0 := by rw [Ppu.position, hy, hd]
    exact vbl_false_of_suppressed (s := s.setPpu p.afterStatusRead) h0 rfl (Ppu.afterStatusRead_suppressVbl h0) hk
  case nmi =>
    exact requestsNmi_false_of_suppressed (s := s.setPpu p.afterStatusRead) hy hd
      (Ppu.afterStatusRead_suppressNmi hy hd) hk

end Sys2Proof.Machine

/-! Proofs of the statements about rendering (spec/48_ppu_rendering.md): the length of a frame, the flags and the NMI within it,
the background and sprite pipelines, and the picture. -/

namespace Sys2Proof.Machine

/-! The parts of the PPU that the actions of a dot change -/

/-- The four background shift registers (R49). -/
structure Shifters where
  bgLo : BitVec 16
  bgHi : BitVec 16
  palLo : BitVec 16
  palHi : BitVec 16

/-- What a fetch batch leaves for the reload (R49). -/
structure Latch where
  lo : Byte
  hi : Byte
  pal : BitVec 2

/-- The sprite pipeline with OAMAddr (R43, R48, R50). -/
structure SpriteState where
  oamAddr : Byte
  secOam : Memory
  sprites : List SpriteEntry
  sprite0InRange : Bool
  overflow : Bool

/-- What a pixel changes (R42, R51). -/
structure Canvas where
  scanlineBuffer : List PalIndex
  sprite0Hit : Bool

/-- The frame and the record of its delivery (R51, R392). -/
structure Output where
  frame : List (List Rgb)
  lastFrame : Option (List (List Rgb))
  framesOut : Nat

/-- Everything that the actions of a dot change, but for the VBL flag and its suppressions (`Ppu.SameVbl`), in the groups in
which they change it; what they leave alone is in `DotFrame`. -/
structure Parts where
  v : VramAddr
  shifters : Shifters
  latch : Latch
  spriteState : SpriteState
  canvas : Canvas
  output : Output

/-- The background shift registers of the PPU. -/
def Ppu.shifters (p : Ppu) : Shifters := ⟨p.bgLo, p.bgHi, p.palLo, p.palHi⟩

/-- The background latch of the PPU. -/
def Ppu.latch (p : Ppu) : Latch := ⟨p.latchLo, p.latchHi, p.latchPal⟩

/-- The sprite pipeline of the PPU. -/
def Ppu.spriteState (p : Ppu) : SpriteState := ⟨p.oamAddr, p.secOam, p.sprites, p.sprite0InRange, p.overflow⟩

/-- The scanline buffer and the sprite-0 flag of the PPU. -/
def Ppu.canvas (p : Ppu) : Canvas := ⟨p.scanlineBuffer, p.sprite0Hit⟩

/-- The frame of the PPU and the record of its delivery. -/
def Ppu.output (p : Ppu) : Output := ⟨p.frame, p.lastFrame, p.framesOut⟩

/-- The parts of the PPU that dots change. -/
def Ppu.parts (p : Ppu) : Parts := ⟨p.v, p.shifters, p.latch, p.spriteState, p.canvas, p.output⟩

@[simp] theorem flagActions_parts (p : Ppu) :
    (flagActions p).parts =
      { p.parts with spriteState := (flagActions p).spriteState, canvas := (flagActions p).canvas } := by
  unfold flagActions
  repeat' split
  all_goals rfl

theorem evaluateFrom_parts (k n : Nat) (p : Ppu) :
    (evaluateFrom k n p).parts = { p.parts with spriteState := (evaluateFrom k n p).spriteState } := by
  induction k generalizing n p with
  | zero => rfl
  | succ k ih =>
    unfold evaluateFrom
    split
    · split
      · exact ih (n + 1) (copySprite p (63 - k) n)
      · rfl
    · exact ih n p

@[simp] theorem spriteActions_parts (c : Cartridge) (p : Ppu) :
    (spriteActions c p).parts = { p.parts with spriteState := (spriteActions c p).spriteState } := by
  unfold spriteActions
  split
  · split
    · rfl
    split
    · exact evaluateFrom_parts 64 0 p
    split <;> rfl
  · rfl

@[simp] theorem reloadAction_parts (p : Ppu) :
    (reloadAction p).parts = { p.parts with shifters := (reloadAction p).shifters } := by
  unfold reloadAction
  split <;> rfl

@[simp] theorem pixelAction_parts (p : Ppu) :
    (pixelAction p).parts = { p.parts with canvas := (pixelAction p).canvas } := by
  unfold pixelAction
  split <;> rfl

@[simp] theorem shiftAction_parts (p : Ppu) :
    (shiftAction p).parts = { p.parts with shifters := (shiftAction p).shifters } := by
  unfold shiftAction
  split <;> rfl

@[simp] theorem fetchAction_parts (c : Cartridge) (p : Ppu) :
    (fetchAction c p).parts = { p.parts with v := (fetchAction c p).v, latch := (fetchAction c p).latch } := by
  unfold fetchAction
  split <;> rfl

theorem dot256_parts (p : Ppu) : (dot256 p).parts = { p.parts with v := (dot256 p).v, output := (dot256 p).output } := by
  unfold dot256
  by_cases h : p.active = true
  · simp only [if_pos h]
    split <;> rfl
  · simp only [if_neg h]
    split <;> rfl

@[simp] theorem lateActions_parts (p : Ppu) :
    (lateActions p).parts = { p.parts with v := (lateActions p).v, output := (lateActions p).output } := by
  unfold lateActions
  split
  · exact dot256_parts p
  split
  · rfl
  split <;> rfl

theorem advanceDot_parts (p : Ppu) : (advanceDot p).parts = p.parts := by
  rw [advanceDot_eq]
  rfl

/-- The PPU after steps 1 and 2 of R371: the flag and the sprite actions. -/
def Ppu.afterSprites (p : Ppu) (c : Cartridge) : Ppu := spriteActions c (flagActions p)

/-- The PPU after steps 1 to 4 of R371: the reload and the pixel as well. -/
def Ppu.afterPixel (p : Ppu) (c : Cartridge) : Ppu := pixelAction (reloadAction (p.afterSprites c))

/-- The PPU after steps 1 to 6 of R371: the shift and the fetch as well. -/
def Ppu.afterFetch (p : Ppu) (c : Cartridge) : Ppu := fetchAction c (shiftAction (p.afterPixel c))

/-- The actions of a dot end with step 7 of R371. -/
theorem dotActions_eq (c : Cartridge) (p : Ppu) : dotActions c p = lateActions (p.afterFetch c) := rfl

theorem afterSprites_frame (p : Ppu) (c : Cartridge) : DotFrame p (p.afterSprites c) :=
  (flagActions_frame p).trans (spriteActions_frame c _)

theorem afterPixel_frame (p : Ppu) (c : Cartridge) : DotFrame p (p.afterPixel c) :=
  (afterSprites_frame p c).trans ((reloadAction_frame _).trans (pixelAction_frame _))

theorem afterFetch_frame (p : Ppu) (c : Cartridge) : DotFrame p (p.afterFetch c) :=
  (afterPixel_frame p c).trans ((shiftAction_frame _).trans (fetchAction_frame c _))

theorem afterSprites_parts (p : Ppu) (c : Cartridge) :
    (p.afterSprites c).parts =
      { p.parts with spriteState := (p.afterSprites c).spriteState, canvas := (flagActions p).canvas } := by
  simp [Ppu.afterSprites]

theorem afterPixel_parts (p : Ppu) (c : Cartridge) :
    (p.afterPixel c).parts =
      { p.parts with
        shifters := (reloadAction (p.afterSprites c)).shifters, spriteState := (p.afterSprites c).spriteState
        canvas := (p.afterPixel c).canvas } := by
  simp [Ppu.afterPixel, afterSprites_parts]

theorem afterFetch_parts (p : Ppu) (c : Cartridge) :
    (p.afterFetch c).parts =
      { p.parts with
        v := (p.afterFetch c).v, shifters := (shiftAction (p.afterPixel c)).shifters, latch := (p.afterFetch c).latch
        spriteState := (p.afterSprites c).spriteState, canvas := (p.afterPixel c).canvas } := by
  simp [Ppu.afterFetch, afterPixel_parts]

/-- Which step of R371 leaves each part as it is after the dot. -/
theorem executeDot_parts (s : State) :
    (executeDot s).ppu.parts =
      { v := (lateActions (s.ppu.afterFetch s.cart)).v
        shifters := (shiftAction (s.ppu.afterPixel s.cart)).shifters
        latch := (s.ppu.afterFetch s.cart).latch
        spriteState := (s.ppu.afterSprites s.cart).spriteState
        canvas := (s.ppu.afterPixel s.cart).canvas
        output := (lateActions (s.ppu.afterFetch s.cart)).output } := by
  rw [executeDot_eq]
  dsimp only
  rw [advanceDot_parts, dotActions_eq, lateActions_parts, afterFetch_parts]

/-! The conditions of a dot, at any of its steps -/

theorem Ppu.active_iff {p : Ppu} : p.active = true ↔ 20 ≤ p.scanline ∧ p.scanline ≤ 260 ∧ p.rendering = true := by
  rw [Ppu.active, Ppu.pipelineLine, Bool.and_eq_true, decide_eq_true_iff, and_assoc]

theorem Ppu.visibleLine_iff {p : Ppu} : p.visibleLine = true ↔ 21 ≤ p.scanline ∧ p.scanline ≤ 260 := by
  rw [Ppu.visibleLine, decide_eq_true_iff]

/-- The pipelines run in a fetch region (R360, R362). -/
def Ppu.running (p : Ppu) : Prop :=
  20 ≤ p.scanline ∧ p.scanline ≤ 260 ∧ p.rendering = true ∧ (p.dot < 256 ∨ (320 ≤ p.dot ∧ p.dot < 336))

theorem Ppu.running_iff {p : Ppu} : p.active = true ∧ p.fetchRegion = true ↔ p.running := by
  rw [Ppu.active_iff, Ppu.fetchRegion, decide_eq_true_iff, Ppu.running, and_assoc, and_assoc]
  simp only [Nat.lt_succ_iff]

theorem DotFrame.bgEnable {p q : Ppu} (h : DotFrame p q) : q.bgEnable = p.bgEnable := by
  rw [Ppu.bgEnable, h.mask, Ppu.bgEnable]

theorem DotFrame.rendering {p q : Ppu} (h : DotFrame p q) : q.rendering = p.rendering := by
  rw [Ppu.rendering, Ppu.rendering, h.bgEnable, Ppu.spriteEnable, h.mask, Ppu.spriteEnable]

theorem DotFrame.active {p q : Ppu} (h : DotFrame p q) : q.active = p.active := by
  rw [Ppu.active, Ppu.active, h.rendering, Ppu.pipelineLine, h.scanline, Ppu.pipelineLine]

theorem DotFrame.visibleLine {p q : Ppu} (h : DotFrame p q) : q.visibleLine = p.visibleLine := by
  rw [Ppu.visibleLine, h.scanline, Ppu.visibleLine]

theorem DotFrame.running {p q : Ppu} (h : DotFrame p q) : q.running ↔ p.running := by
  rw [Ppu.running, h.scanline, h.rendering, h.dot, Ppu.running]

/-- PPU memory is not changed by a dot (R105). -/
theorem DotFrame.ppuRead {p q : Ppu} (h : DotFrame p q) (c : Cartridge) (a : PpuAddr) : ppuRead c q a = ppuRead c p a := by
  simp only [Machine.ppuRead, readNametable, h.ntA, h.ntB, h.palette]

/-! The background pipeline in a dot -/

/-- The shift registers with their high bytes replaced from the latch (R364). -/
def Shifters.load (r : Shifters) (l : Latch) : Shifters where
  bgLo := loadHigh r.bgLo (rev8 l.lo)
  bgHi := loadHigh r.bgHi (rev8 l.hi)
  palLo := loadHigh r.palLo (replicate8 (l.pal.getLsbD 0))
  palHi := loadHigh r.palHi (replicate8 (l.pal.getLsbD 1))

/-- The shift registers shifted (R365). -/
def Shifters.shift (r : Shifters) : Shifters := ⟨r.bgLo >>> 1, r.bgHi >>> 1, r.palLo >>> 1, r.palHi >>> 1⟩

/-- One register reloaded, if the dot does that, and then shifted (R364, R365). -/
def nextRegister (load : Prop) [Decidable load] (r : BitVec 16) (b : Byte) : BitVec 16 :=
  (if load then loadHigh r b else r) >>> 1

theorem Shifters.shift_load (load : Prop) [Decidable load] (r : Shifters) (l : Latch) :
    (if load then r.load l else r).shift =
      { bgLo := nextRegister load r.bgLo (rev8 l.lo), bgHi := nextRegister load r.bgHi (rev8 l.hi)
        palLo := nextRegister load r.palLo (replicate8 (l.pal.getLsbD 0))
        palHi := nextRegister load r.palHi (replicate8 (l.pal.getLsbD 1)) } := by
  unfold nextRegister
  split <;> rfl

theorem reloadAction_shifters {p : Ppu} (h : p.running) :
    (reloadAction p).shifters = if p.dot % 8 = 0 then p.shifters.load p.latch else p.shifters := by
  obtain ⟨hactive, hregion⟩ := Ppu.running_iff.2 h
  by_cases h0 : p.dot % 8 = 0
  · rw [reloadAction, if_pos ⟨hactive, hregion, h0⟩, if_pos h0]
    rfl
  · rw [reloadAction, if_neg (fun k => h0 k.2.2), if_neg h0]

theorem reloadAction_idle {p : Ppu} (h : ¬p.running) : reloadAction p = p :=
  if_neg fun k => h (Ppu.running_iff.1 ⟨k.1, k.2.1⟩)

theorem shiftAction_shifters {p : Ppu} (h : p.running) : (shiftAction p).shifters = p.shifters.shift := by
  rw [shiftAction, if_pos (Ppu.running_iff.2 h)]
  rfl

theorem shiftAction_idle {p : Ppu} (h : ¬p.running) : shiftAction p = p := if_neg fun k => h (Ppu.running_iff.1 k)

theorem afterSprites_shifters (p : Ppu) (c : Cartridge) : (p.afterSprites c).shifters = p.shifters :=
  (congrArg Parts.shifters (afterSprites_parts p c) :)

theorem afterSprites_latch (p : Ppu) (c : Cartridge) : (p.afterSprites c).latch = p.latch :=
  (congrArg Parts.latch (afterSprites_parts p c) :)

theorem afterPixel_shifters (p : Ppu) (c : Cartridge) :
    (p.afterPixel c).shifters = (reloadAction (p.afterSprites c)).shifters :=
  (congrArg Parts.shifters (afterPixel_parts p c) :)

theorem executeDot_shifters_eq (s : State) :
    (executeDot s).ppu.shifters = (shiftAction (s.ppu.afterPixel s.cart)).shifters :=
  (congrArg Parts.shifters (executeDot_parts s) :)

/-- In a fetch region a dot shifts the registers, at phase-offset 0 after the reload (R364, R365). -/
theorem executeDot_shifters {s : State} (h : s.ppu.running) :
    (executeDot s).ppu.shifters =
      (if s.ppu.dot % 8 = 0 then s.ppu.shifters.load s.ppu.latch else s.ppu.shifters).shift := by
  have hsprites := afterSprites_frame s.ppu s.cart
  rw [executeDot_shifters_eq, shiftAction_shifters ((afterPixel_frame _ _).running.2 h), afterPixel_shifters,
    reloadAction_shifters (hsprites.running.2 h), hsprites.dot, afterSprites_shifters, afterSprites_latch]

theorem executeDot_shifters_idle {s : State} (h : ¬s.ppu.running) : (executeDot s).ppu.shifters = s.ppu.shifters := by
  rw [executeDot_shifters_eq, shiftAction_idle (mt (afterPixel_frame _ _).running.1 h), afterPixel_shifters,
    reloadAction_idle (mt (afterSprites_frame _ _).running.1 h), afterSprites_shifters]

/-- The dot ends with a fetch batch (R362, R363). -/
def Ppu.fetches (p : Ppu) : Prop := p.running ∧ p.dot % 8 = 7

theorem DotFrame.fetches {p q : Ppu} (h : DotFrame p q) : q.fetches ↔ p.fetches := by
  rw [Ppu.fetches, h.running, h.dot, Ppu.fetches]

theorem fetchAction_fetches {p : Ppu} (h : p.fetches) (c : Cartridge) : fetchAction c p = fetchBatch c p := by
  obtain ⟨hrun, h7⟩ := h
  obtain ⟨hactive, hregion⟩ := Ppu.running_iff.2 hrun
  exact if_pos ⟨hactive, hregion, h7⟩

theorem fetchAction_idle {p : Ppu} (h : ¬p.fetches) (c : Cartridge) : fetchAction c p = p :=
  if_neg fun k => h ⟨Ppu.running_iff.1 ⟨k.1, k.2.1⟩, k.2.2⟩

/-- A fetch batch reads nothing that an earlier step of the dot changes. -/
theorem fetchBatch_latch {p q : Ppu} (h : DotFrame p q) (hv : q.v = p.v) (c : Cartridge) :
    (fetchBatch c q).latch = (fetchBatch c p).latch := by
  simp only [fetchBatch, Ppu.latch, bgPatternAddr, Ppu.bgTable, h.ppuRead, h.ctrl, hv]

theorem fetchBatch_latch_eq (c : Cartridge) (p : Ppu) :
    (fetchBatch c p).latch =
      { lo := ppuRead c p (bgPatternAddr p (ppuRead c p (tileAddr p.v)))
        hi := ppuRead c p (bgPatternAddr p (ppuRead c p (tileAddr p.v)) + 8)
        pal := (ppuRead c p (attrAddr p.v) >>> attrShift p.v).setWidth 2 } := rfl

theorem shift_afterPixel_kept (p : Ppu) (c : Cartridge) :
    (shiftAction (p.afterPixel c)).v = p.v ∧ (shiftAction (p.afterPixel c)).latch = p.latch := by
  have h := shiftAction_parts (p.afterPixel c)
  rw [afterPixel_parts] at h
  exact ⟨(congrArg Parts.v h :), (congrArg Parts.latch h :)⟩

theorem afterFetch_fetches {p : Ppu} (h : p.fetches) (c : Cartridge) :
    (p.afterFetch c).v = incCoarseX p.v ∧ (p.afterFetch c).latch = (fetchBatch c p).latch := by
  have hframe := (afterPixel_frame p c).trans (shiftAction_frame _)
  obtain ⟨hv, -⟩ := shift_afterPixel_kept p c
  rw [Ppu.afterFetch, fetchAction_fetches (hframe.fetches.2 h)]
  exact ⟨congrArg incCoarseX hv, fetchBatch_latch hframe hv c⟩

theorem afterFetch_idle {p : Ppu} (h : ¬p.fetches) (c : Cartridge) :
    (p.afterFetch c).v = p.v ∧ (p.afterFetch c).latch = p.latch := by
  rw [Ppu.afterFetch, fetchAction_idle (mt ((afterPixel_frame p c).trans (shiftAction_frame _)).fetches.1 h)]
  exact shift_afterPixel_kept p c

theorem executeDot_latch (s : State) : (executeDot s).ppu.latch = (s.ppu.afterFetch s.cart).latch :=
  (congrArg Parts.latch (executeDot_parts s) :)

theorem dot256_v (p : Ppu) : (dot256 p).v = if p.active = true then reloadHorizontal (incFineY p.v) p.t else p.v := by
  unfold dot256
  by_cases h : p.active = true
  · simp only [if_pos h]
    split <;> rfl
  · simp only [if_neg h]
    split <;> rfl

theorem lateActions_v (p : Ppu) :
    (lateActions p).v =
      if p.dot = 256 then if p.active = true then reloadHorizontal (incFineY p.v) p.t else p.v
      else if p.scanline = 20 ∧ p.dot = 303 ∧ p.rendering = true then p.t else p.v := by
  unfold lateActions
  split
  · exact dot256_v p
  split
  · rfl
  split <;> rfl

/-- What a dot does to `v`: a fetch batch, dot 256 and dot 303 of scanline 20 (R355, R368, R369). -/
theorem executeDot_v (s : State) :
    (executeDot s).ppu.v =
      if s.ppu.dot = 256 then
        if s.ppu.active = true then reloadHorizontal (incFineY s.ppu.v) s.ppu.t else s.ppu.v
      else if s.ppu.scanline = 20 ∧ s.ppu.dot = 303 ∧ s.ppu.rendering = true then s.ppu.t
      else (s.ppu.afterFetch s.cart).v := by
  have hframe := afterFetch_frame s.ppu s.cart
  have hv : (executeDot s).ppu.v = (lateActions (s.ppu.afterFetch s.cart)).v := (congrArg Parts.v (executeDot_parts s) :)
  rw [hv, lateActions_v, hframe.dot, hframe.active, hframe.scanline, hframe.rendering, hframe.t]
  by_cases h : s.ppu.dot = 256
  · have hidle : ¬s.ppu.fetches := fun k => by
      obtain ⟨-, h7⟩ := k
      omega
    rw [if_pos h, if_pos h, (afterFetch_idle hidle s.cart).1]
  · rw [if_neg h, if_neg h]

theorem executeDot_v_fetches {s : State} (h : s.ppu.fetches) : (executeDot s).ppu.v = incCoarseX s.ppu.v := by
  have hv := executeDot_v s
  obtain ⟨hinc, -⟩ := afterFetch_fetches h s.cart
  obtain ⟨⟨-, -, -, hdot⟩, h7⟩ := h
  rwa [if_neg (by omega), if_neg (by omega), hinc] at hv

/-! The fields of `v` as numbers -/

theorem coarseX_toNat (v : VramAddr) : (coarseX v).toNat = v.toNat % 32 := by
  simp [coarseX, BitVec.extractLsb'_toNat]

theorem coarseY_toNat (v : VramAddr) : (coarseY v).toNat = v.toNat / 32 % 32 := by
  simp [coarseY, BitVec.extractLsb'_toNat, Nat.shiftRight_eq_div_pow]

theorem nametable_toNat (v : VramAddr) : (nametable v).toNat = v.toNat / 1024 % 4 := by
  simp [nametable, BitVec.extractLsb'_toNat, Nat.shiftRight_eq_div_pow]

theorem fineY_toNat (v : VramAddr) : (fineY v).toNat = v.toNat / 4096 := by
  have hv := v.isLt
  simp only [fineY, BitVec.extractLsb'_toNat, Nat.shiftRight_eq_div_pow]
  omega

/-! The latch of a fetch batch -/

theorem tileAddr_eq (v : VramAddr) : tileAddr v = BitVec.ofNat 14 (0x2000 + v.toNat % 0x1000) := by
  rw [tileAddr, ntBase, nametable_toNat, coarseY_toNat, coarseX_toNat]
  congr 1
  omega

theorem attrAddr_eq (v : VramAddr) :
    attrAddr v = BitVec.ofNat 14 (0x2000 + 0x400 * (v.toNat / 0x400 % 4) + 0x3C0 + 8 * (v.toNat / 32 % 32 / 4) +
      v.toNat % 32 / 4) := by
  rw [attrAddr, ntBase, nametable_toNat, coarseY_toNat, coarseX_toNat]

theorem quadPalette_toNat (b : Byte) (v : VramAddr) :
    ((b >>> attrShift v).setWidth 2).toNat =
      b.toNat / 2 ^ (2 * (v.toNat % 32 % 4 / 2) + 4 * (v.toNat / 32 % 32 % 4 / 2)) % 4 := by
  rw [BitVec.toNat_setWidth, BitVec.toNat_ushiftRight, Nat.shiftRight_eq_div_pow, attrShift, coarseX_toNat, coarseY_toNat]

theorem bgPatternAddr_eq (p : Ppu) (tile : Byte) :
    bgPatternAddr p tile =
      BitVec.ofNat 14 ((if p.ctrl.getLsbD 4 = true then 0x1000 else 0) + 16 * tile.toNat + p.v.toNat / 0x1000) := by
  rw [bgPatternAddr, fineY_toNat]
  rfl

/-! The bits of a shift register -/

theorem rev8_getLsbD (b : Byte) {j : Nat} (hj : j < 8) : (rev8 b).getLsbD j = b.getLsbD (7 - j) := by
  rw [rev8]
  repeat rw [BitVec.getLsbD_append]
  interval_cases j <;> simp

theorem replicate8_getLsbD (b : Bool) {j : Nat} (hj : j < 8) : (replicate8 b).getLsbD j = b := by
  cases b <;> interval_cases j <;> rfl

theorem loadHigh_getLsbD (r : BitVec 16) (b : Byte) (j : Nat) :
    (loadHigh r b).getLsbD j = if j < 8 then r.getLsbD j else b.getLsbD (j - 8) := by
  rw [loadHigh, BitVec.getLsbD_append]
  split
  case isTrue h => simp [h]
  case isFalse => rfl

/-- A register after the shift, reloaded before it from a byte that holds `high` in reverse order. -/
theorem nextRegister_getLsbD (r : BitVec 16) {b : Byte} {high : Nat → Bool} (hb : ∀ j < 8, b.getLsbD j = high (7 - j))
    (load : Prop) [Decidable load] (j : Nat) :
    (nextRegister load r b).getLsbD j = if load ∧ 7 ≤ j ∧ j ≤ 14 then high (14 - j) else r.getLsbD (j + 1) := by
  rw [nextRegister, BitVec.getLsbD_ushiftRight, Nat.add_comm 1]
  by_cases hload : load
  · rw [if_pos hload, loadHigh_getLsbD]
    by_cases h7 : j < 7
    · rw [if_pos (by omega), if_neg (by omega)]
    by_cases h14 : j ≤ 14
    · rw [if_neg (by omega), if_pos ⟨hload, by omega, h14⟩, hb _ (by omega)]
      congr 1
      omega
    · rw [if_neg (by omega), if_neg (fun k => h14 k.2.2), BitVec.getLsbD_of_ge _ _ (by omega),
        BitVec.getLsbD_of_ge _ _ (by omega)]
  · rw [if_neg hload, if_neg (fun k => hload k.1)]

/-- Settles O33: the latch by the fetch batch, the registers by reload and shift, each left alone at every other dot. -/
theorem fetchBatch_holds : Obligations.FetchBatch := by
  intro s p q running shifted
  have hlatch : q.latch = (p.afterFetch s.cart).latch := executeDot_latch s
  refine ⟨fun hrun h7 => ?fetch, fun hrun => ?shift, fun hidle => ?latchIdle, fun hidle => ?shiftersIdle⟩
  case fetch =>
    have hfetch : p.fetches := ⟨hrun, h7⟩
    rw [(afterFetch_fetches hfetch s.cart).2, fetchBatch_latch_eq] at hlatch
    obtain ⟨hlo, hhi, hpal⟩ := Latch.mk.inj hlatch
    intro x y nt tile attr plane
    have htile : ppuRead s.cart p (tileAddr p.v) = tile := by rw [tileAddr_eq]
    have hattr : ppuRead s.cart p (attrAddr p.v) = attr := by rw [attrAddr_eq]
    have hplane : bgPatternAddr p tile = BitVec.ofNat 14 plane := bgPatternAddr_eq p tile
    refine ⟨?_, ?_, ?_, executeDot_v_fetches hfetch⟩
    · rw [hpal, hattr]
      exact quadPalette_toNat attr p.v
    · rw [hlo, htile, hplane]
    · rw [hhi, htile, hplane]
      exact congrArg _ (BitVec.ofNat_add plane 8).symm
  case shift =>
    have hshifters := executeDot_shifters (s := s) hrun
    rw [Shifters.shift_load] at hshifters
    obtain ⟨hbgLo, hbgHi, hpalLo, hpalHi⟩ := Shifters.mk.inj hshifters
    refine ⟨fun j _ => ?_, fun j _ => ?_, fun j _ => ?_, fun j _ => ?_⟩
    · rw [hbgLo]
      exact nextRegister_getLsbD p.bgLo (fun k hk => rev8_getLsbD p.latchLo hk) _ j
    · rw [hbgHi]
      exact nextRegister_getLsbD p.bgHi (fun k hk => rev8_getLsbD p.latchHi hk) _ j
    · rw [hpalLo]
      exact nextRegister_getLsbD p.palLo (high := fun _ => p.latchPal.getLsbD 0) (fun k hk => replicate8_getLsbD _ hk) _ j
    · rw [hpalHi]
      exact nextRegister_getLsbD p.palHi (high := fun _ => p.latchPal.getLsbD 1) (fun k hk => replicate8_getLsbD _ hk) _ j
  case latchIdle =>
    rw [(afterFetch_idle (p := p) hidle s.cart).2] at hlatch
    exact Latch.mk.inj hlatch
  case shiftersIdle => exact Shifters.mk.inj (executeDot_shifters_idle (s := s) hidle)

/-! The increments of `v` as moves over the tile plane -/

/-- `v` has the coarse-X, coarse-Y, nametable and fine-Y given, as numbers (R44). -/
structure HasFields (v : VramAddr) (x y n f : Nat) : Prop where
  x_lt : x < 32
  y_lt : y < 32
  n_lt : n < 4
  f_lt : f < 8
  toNat_eq : v.toNat = x + 32 * y + 1024 * n + 4096 * f

theorem hasFields (v : VramAddr) :
    HasFields v (coarseX v).toNat (coarseY v).toNat (nametable v).toNat (fineY v).toNat where
  x_lt := (coarseX v).isLt
  y_lt := (coarseY v).isLt
  n_lt := (nametable v).isLt
  f_lt := (fineY v).isLt
  toNat_eq := by
    rw [coarseX_toNat, coarseY_toNat, nametable_toNat, fineY_toNat]
    omega

/-- A nametable number with its horizontal bit toggled. -/
def toggleX (n : Nat) : Nat := 2 * (n / 2) + (1 - n % 2)

/-- A nametable number with its vertical bit toggled. -/
def toggleY (n : Nat) : Nat := 2 * (1 - n / 2) + n % 2

theorem toggle_toNat : ∀ n : BitVec 2, (n ^^^ 1#2).toNat = toggleX n.toNat ∧ (n ^^^ 2#2).toNat = toggleY n.toNat := by
  decide

/-- Coarse-X cleared and the horizontal nametable bit toggled (R368). -/
theorem wrapX_fields (v : VramAddr) :
    let u := (v &&& ~~~0x001F#15) ^^^ 0x0400#15
    coarseX u = 0#5 ∧ coarseY u = coarseY v ∧ nametable u = nametable v ^^^ 1#2 ∧ fineY u = fineY v := by
  refine ⟨?_, ?_, ?_, ?_⟩ <;> ext i hi <;> interval_cases i <;> simp [coarseX, coarseY, nametable, fineY]

/-- Fine-Y and coarse-Y cleared (R369). -/
theorem clearY_fields (v : VramAddr) :
    let u := v &&& ~~~0x73E0#15
    coarseX u = coarseX v ∧ coarseY u = 0#5 ∧ nametable u = nametable v ∧ fineY u = 0#3 := by
  refine ⟨?_, ?_, ?_, ?_⟩ <;> ext i hi <;> interval_cases i <;> simp [coarseX, coarseY, nametable, fineY]

/-- Fine-Y and coarse-Y cleared and the vertical nametable bit toggled (R369). -/
theorem wrapY_fields (v : VramAddr) :
    let u := (v &&& ~~~0x73E0#15) ^^^ 0x0800#15
    coarseX u = coarseX v ∧ coarseY u = 0#5 ∧ nametable u = nametable v ^^^ 2#2 ∧ fineY u = 0#3 := by
  refine ⟨?_, ?_, ?_, ?_⟩ <;> ext i hi <;> interval_cases i <;> simp [coarseX, coarseY, nametable, fineY]

/-- Fine-Y cleared (R369). -/
theorem clearFineY_fields (v : VramAddr) :
    let u := v &&& ~~~0x7000#15
    coarseX u = coarseX v ∧ coarseY u = coarseY v ∧ nametable u = nametable v ∧ fineY u = 0#3 := by
  refine ⟨?_, ?_, ?_, ?_⟩ <;> ext i hi <;> interval_cases i <;> simp [coarseX, coarseY, nametable, fineY]

/-- The coarse-X increment, field by field (R368). -/
theorem incCoarseX_fields (v : VramAddr) :
    let x := (coarseX v).toNat
    let n := (nametable v).toNat
    HasFields (incCoarseX v) (if x = 31 then 0 else x + 1) (coarseY v).toNat (if x = 31 then toggleX n else n)
      (fineY v).toNat := by
  intro x n
  have h31 : coarseX v = 31 ↔ x = 31 := by rw [← BitVec.toNat_inj]; rfl
  rw [incCoarseX]
  by_cases h : x = 31
  · obtain ⟨hx, hy, hn, hf⟩ := wrapX_fields v
    have hu := hasFields ((v &&& ~~~0x001F#15) ^^^ 0x0400#15)
    rw [hx, hy, hn, hf, (toggle_toNat _).1] at hu
    rw [if_pos (h31.2 h), if_pos h, if_pos h]
    exact hu
  · obtain ⟨x_lt, y_lt, n_lt, f_lt, hv⟩ := hasFields v
    have hone : (1 : VramAddr).toNat = 1 := rfl
    rw [if_neg (mt h31.1 h), if_neg h, if_neg h]
    exact ⟨by omega, y_lt, n_lt, f_lt, by rw [BitVec.toNat_add, hone]; omega⟩

/-- The fine-Y increment below 7 (R369). -/
theorem incFineY_fields {v : VramAddr} (h : (fineY v).toNat ≠ 7) :
    HasFields (incFineY v) (coarseX v).toNat (coarseY v).toNat (nametable v).toNat ((fineY v).toNat + 1) := by
  obtain ⟨x_lt, y_lt, n_lt, f_lt, hv⟩ := hasFields v
  have h7 : fineY v ≠ 7 := fun k => h (by rw [k]; rfl)
  have hstep : (0x1000#15).toNat = 4096 := rfl
  rw [incFineY, if_neg h7]
  exact ⟨x_lt, y_lt, n_lt, by omega, by rw [BitVec.toNat_add, hstep]; omega⟩

/-- The fine-Y increment at 7, which carries into coarse-Y: 29 wraps with a toggle, 31 without (R369, D25). -/
theorem incFineY_carry_fields {v : VramAddr} (h : (fineY v).toNat = 7) :
    let y := (coarseY v).toNat
    let n := (nametable v).toNat
    HasFields (incFineY v) (coarseX v).toNat (if y = 29 ∨ y = 31 then 0 else y + 1) (if y = 29 then toggleY n else n) 0 := by
  intro y n
  have h7 : fineY v = 7 := BitVec.eq_of_toNat_eq h
  have h29 : coarseY v = 29 ↔ y = 29 := by rw [← BitVec.toNat_inj]; rfl
  have h31 : coarseY v = 31 ↔ y = 31 := by rw [← BitVec.toNat_inj]; rfl
  rw [incFineY, if_pos h7]
  by_cases hy29 : y = 29
  · obtain ⟨hx, hy, hn, hf⟩ := wrapY_fields v
    have hu := hasFields ((v &&& ~~~0x73E0#15) ^^^ 0x0800#15)
    rw [hx, hy, hn, hf, (toggle_toNat _).2] at hu
    rw [if_pos (h29.2 hy29), if_pos (.inl hy29), if_pos hy29]
    exact hu
  rw [if_neg (mt h29.1 hy29), if_neg hy29]
  by_cases hy31 : y = 31
  · obtain ⟨hx, hy, hn, hf⟩ := clearY_fields v
    have hu := hasFields (v &&& ~~~0x73E0#15)
    rw [hx, hy, hn, hf] at hu
    rw [if_pos (h31.2 hy31), if_pos (.inr hy31)]
    exact hu
  · obtain ⟨hx, hy, hn, hf⟩ := clearFineY_fields v
    obtain ⟨x_lt, y_lt, n_lt, -, hu⟩ := hasFields (v &&& ~~~0x7000#15)
    rw [hx, hy, hn, hf] at hu
    rw [hx] at x_lt
    rw [hn] at n_lt
    rw [hy] at y_lt
    have hzero : (0#3).toNat = 0 := rfl
    have hstep : (0x0020#15).toNat = 32 := rfl
    rw [if_neg (mt h31.1 hy31), if_neg (by omega)]
    exact ⟨x_lt, by omega, n_lt, by omega, by rw [BitVec.toNat_add, hstep, hu, hzero]; omega⟩

/-- The horizontal coordinate in the tile plane (R368). -/
def planeColumn (v : VramAddr) : Nat := v.toNat % 32 + 32 * (v.toNat / 0x400 % 2)

/-- The vertical coordinate in the plane, in pixel rows (R369). -/
def planeRow (v : VramAddr) : Nat := v.toNat / 0x1000 + 8 * (v.toNat / 32 % 32) + 240 * (v.toNat / 0x800 % 2)

/-- The vertical nametable bit (R369). -/
def verticalBit (v : VramAddr) : Nat := v.toNat / 0x800 % 2

theorem HasFields.plane {v : VramAddr} {x y n f : Nat} (h : HasFields v x y n f) :
    planeColumn v = x + 32 * (n % 2) ∧ planeRow v = f + 8 * y + 240 * (n / 2) ∧ verticalBit v = n / 2 := by
  obtain ⟨x_lt, y_lt, n_lt, f_lt, hv⟩ := h
  rw [planeColumn, planeRow, verticalBit, hv]
  refine ⟨?_, ?_, ?_⟩ <;> omega

theorem incCoarseX_plane (v : VramAddr) :
    planeColumn (incCoarseX v) = (planeColumn v + 1) % 64 ∧ planeRow (incCoarseX v) = planeRow v ∧
      verticalBit (incCoarseX v) = verticalBit v := by
  obtain ⟨hcol, hrow, hvert⟩ := (hasFields v).plane
  obtain ⟨hcol', hrow', hvert'⟩ := (incCoarseX_fields v).plane
  obtain ⟨x_lt, -, n_lt, -, -⟩ := hasFields v
  rw [hcol, hrow, hvert, hcol', hrow', hvert', toggleX]
  split <;> refine ⟨?_, ?_, ?_⟩ <;> omega

/-- The fine-Y increment as a move, by the coarse-Y it starts from (R369, D25). -/
theorem incFineY_plane (v : VramAddr) :
    let y := v.toNat / 32 % 32
    let f := v.toNat / 0x1000
    planeColumn (incFineY v) = planeColumn v ∧
    (y < 30 → planeRow (incFineY v) = (planeRow v + 1) % 480 ∧
      verticalBit (incFineY v) = if y = 29 ∧ f = 7 then 1 - verticalBit v else verticalBit v) ∧
    (y = 30 → planeRow (incFineY v) = planeRow v + 1 ∧ verticalBit (incFineY v) = verticalBit v) ∧
    (y = 31 → verticalBit (incFineY v) = verticalBit v ∧
      planeRow (incFineY v) = if f = 7 then 240 * verticalBit v else planeRow v + 1) := by
  rw [← coarseY_toNat, ← fineY_toNat]
  intro y f
  obtain ⟨hcol, hrow, hvert⟩ := (hasFields v).plane
  obtain ⟨-, y_lt, n_lt, f_lt, -⟩ := hasFields v
  by_cases h7 : f = 7
  · obtain ⟨hcol', hrow', hvert'⟩ := (incFineY_carry_fields h7).plane
    rw [hcol, hrow, hvert, hcol', hrow', hvert', toggleY]
    refine ⟨?_, fun h => ?_, fun h => ?_, fun h => ?_⟩
    · split <;> omega
    · by_cases h29 : y = 29
      · rw [if_pos (.inl h29), if_pos h29, if_pos ⟨h29, h7⟩]
        omega
      · rw [if_neg (by omega), if_neg h29, if_neg (by omega)]
        omega
    · rw [if_neg (by omega), if_neg (by omega)]
      omega
    · rw [if_neg (by omega), if_pos (.inr h), if_pos h7]
      omega
  · obtain ⟨hcol', hrow', hvert'⟩ := (incFineY_fields h7).plane
    rw [hcol, hrow, hvert, hcol', hrow', hvert', if_neg (fun k => h7 k.2), if_neg h7]
    refine ⟨rfl, fun h => ?_, fun h => ?_, fun h => ?_⟩ <;> omega

theorem reloadHorizontal_getLsbD (v t : VramAddr) {k : Nat} (hk : k < 15) :
    (reloadHorizontal v t).getLsbD k = if k < 5 ∨ k = 10 then t.getLsbD k else v.getLsbD k := by
  interval_cases k <;> simp [reloadHorizontal]

/-- Settles O32: the two increments as numbers, and which dots change `v`. -/
theorem addressIncrements : Obligations.AddressIncrements := by
  refine ⟨fun v => ?moves, fun s => ?dots⟩
  case moves =>
    obtain ⟨hcol, hrow, hvert⟩ := incCoarseX_plane v
    exact ⟨hcol, hrow, hvert, incFineY_plane v⟩
  case dots =>
    intro p v' active fetch
    have hv : v' = _ := executeDot_v s
    have hactive : p.active = true ↔ active := Ppu.active_iff
    refine ⟨fun ha hf => ?_, fun ha h256 k hk => ?_, fun ha h20 h303 => ?_, fun h => ?_⟩
    · obtain ⟨hlo, hhi, hr⟩ := ha
      exact executeDot_v_fetches (s := s) ⟨⟨hlo, hhi, hr, hf.1⟩, hf.2⟩
    · rw [if_pos h256, if_pos (hactive.2 ha)] at hv
      rw [hv]
      exact reloadHorizontal_getLsbD _ _ hk
    · obtain ⟨hlo, hhi, hr⟩ := ha
      have h256 : ¬p.dot = 256 := by omega
      rwa [if_neg h256, if_pos ⟨h20, h303, hr⟩] at hv
    · by_cases h256 : p.dot = 256
      · rw [if_pos h256, if_neg (fun k => h ⟨hactive.1 k, .inr (.inl h256)⟩)] at hv
        exact hv
      rw [if_neg h256] at hv
      by_cases h303 : p.scanline = 20 ∧ p.dot = 303 ∧ p.rendering = true
      · obtain ⟨hy, hd, hr⟩ := h303
        have hlo : 20 ≤ p.scanline := by omega
        have hhi : p.scanline ≤ 260 := by omega
        exact (h ⟨⟨hlo, hhi, hr⟩, .inr (.inr ⟨hy, hd⟩)⟩).elim
      rw [if_neg h303, (afterFetch_idle (fun k => h ?_) s.cart).1] at hv
      · exact hv
      · obtain ⟨⟨hlo, hhi, hr, hdot⟩, h7⟩ := k
        exact ⟨⟨hlo, hhi, hr⟩, .inl ⟨hdot, h7⟩⟩

/-! The flag actions (R352 to R357) -/

theorem flagActions_vbl (p : Ppu) :
    (flagActions p).vbl =
      if p.scanline = 0 ∧ p.dot = 0 then (p.vbl || !p.suppressVbl)
      else if p.scanline = 20 ∧ p.dot = 0 then false else p.vbl := by
  unfold flagActions
  by_cases h0 : p.scanline = 0 ∧ p.dot = 0
  · rw [if_pos h0, if_pos h0, vblankStart]
    cases p.suppressVbl <;> simp
  rw [if_neg h0, if_neg h0]
  by_cases h20 : p.scanline = 20 ∧ p.dot = 0
  · rw [if_neg (by omega), if_pos h20, if_pos h20]
  rw [if_neg h20, if_neg h20]
  repeat' split
  all_goals rfl

theorem flagActions_suppressions (p : Ppu) :
    (flagActions p).suppressVbl = (if p.scanline = 0 ∧ p.dot = 2 then false else p.suppressVbl) ∧
      (flagActions p).suppressNmi = (if p.scanline = 0 ∧ p.dot = 2 then false else p.suppressNmi) := by
  unfold flagActions
  by_cases h2 : p.scanline = 0 ∧ p.dot = 2
  · rw [if_neg (by omega), if_pos h2, if_pos h2, if_pos h2]
    exact ⟨rfl, rfl⟩
  rw [if_neg h2, if_neg h2, if_neg h2]
  repeat' split
  all_goals exact ⟨rfl, rfl⟩

theorem flagActions_spriteState (p : Ppu) :
    (flagActions p).spriteState =
      { p.spriteState with
        oamAddr := if p.scanline = 0 ∧ p.dot = 0 then 0 else p.oamAddr
        sprites := if p.scanline = 0 ∧ p.dot = 0 then p.sprites.map (fun e => { e with valid := false }) else p.sprites
        overflow := if p.scanline = 20 ∧ p.dot = 0 then false else p.overflow } := by
  unfold flagActions
  by_cases h0 : p.scanline = 0 ∧ p.dot = 0
  · rw [if_pos h0, if_pos h0, if_pos h0, if_neg (by omega)]
    rfl
  rw [if_neg h0, if_neg h0, if_neg h0]
  by_cases h20 : p.scanline = 20 ∧ p.dot = 0
  · rw [if_neg (by omega), if_pos h20, if_pos h20]
    rfl
  rw [if_neg h20, if_neg h20]
  repeat' split
  all_goals rfl

theorem flagActions_canvas (p : Ppu) :
    (flagActions p).canvas =
      { scanlineBuffer := if p.visibleLine = true ∧ p.dot = 0 then List.replicate 256 0 else p.scanlineBuffer
        sprite0Hit := if p.scanline = 20 ∧ p.dot = 0 then false else p.sprite0Hit } := by
  have hvisible : p.visibleLine = true → 21 ≤ p.scanline := fun h => (Ppu.visibleLine_iff.1 h).1
  unfold flagActions
  by_cases hline : p.visibleLine = true ∧ p.dot = 0
  · have hscan := hvisible hline.1
    rw [if_neg (by omega), if_neg (by omega), if_neg (by omega), if_pos hline, if_pos hline, if_neg (by omega)]
    rfl
  rw [if_neg hline, if_neg hline]
  by_cases h20 : p.scanline = 20 ∧ p.dot = 0
  · rw [if_neg (by omega), if_neg (by omega), if_pos h20, if_pos h20]
    rfl
  rw [if_neg h20, if_neg h20]
  repeat' split
  all_goals rfl

/-! The sprite actions (R375 to R377) and the pixel outside their dots -/

theorem spriteActions_inactive {p : Ppu} (h : p.active = false) (c : Cartridge) : spriteActions c p = p :=
  if_neg (by rw [h]; decide)

theorem spriteActions_overflow {p : Ppu} (h64 : p.dot ≠ 64) (c : Cartridge) : (spriteActions c p).overflow = p.overflow := by
  rw [spriteActions, if_neg h64]
  repeat' split
  all_goals rfl

theorem pixelAction_idle {p : Ppu} (h : ¬(p.visibleLine = true ∧ p.dot ≤ 255)) : pixelAction p = p := if_neg h

theorem reload_afterSprites_canvas (p : Ppu) (c : Cartridge) :
    (reloadAction (p.afterSprites c)).canvas = (flagActions p).canvas := by
  have h := reloadAction_parts (p.afterSprites c)
  rw [afterSprites_parts] at h
  exact (congrArg Parts.canvas h :)

theorem executeDot_spriteState (s : State) : (executeDot s).ppu.spriteState = (s.ppu.afterSprites s.cart).spriteState :=
  (congrArg Parts.spriteState (executeDot_parts s) :)

theorem executeDot_canvas (s : State) : (executeDot s).ppu.canvas = (s.ppu.afterPixel s.cart).canvas :=
  (congrArg Parts.canvas (executeDot_parts s) :)

/-- Where no pixel is drawn, only the flag actions change the scanline buffer and the sprite-0 flag (R354, R357). -/
theorem executeDot_canvas_noPixel {s : State} (h : ¬(s.ppu.visibleLine = true ∧ s.ppu.dot ≤ 255)) :
    (executeDot s).ppu.canvas = (flagActions s.ppu).canvas := by
  have hframe := (afterSprites_frame s.ppu s.cart).trans (reloadAction_frame _)
  rw [executeDot_canvas, Ppu.afterPixel, pixelAction_idle (by rw [hframe.visibleLine, hframe.dot]; exact h),
    reload_afterSprites_canvas]

/-! The frame in dots -/

/-- The last dot of a frame, (261, 340), leads to (0, 0) and changes the parity (R351, D11). -/
theorem executeDot_frameEnd {s : State} (hpos : s.ppu.position = 89341) (hd : s.ppu.dot < 341) :
    (executeDot s).ppu.position = 0 ∧ (executeDot s).ppu.oddFrame = !s.ppu.oddFrame := by
  rw [Ppu.position] at hpos
  have hy : s.ppu.scanline = 261 := by omega
  have hd : s.ppu.dot = 340 := by omega
  have hnext := executeDot_position s
  rw [hy, hd, nextPosition, if_neg (by split <;> omega), if_pos rfl] at hnext
  simp only [Prod.mk.injEq] at hnext
  obtain ⟨hy', hd', hodd⟩ := hnext
  exact ⟨by rw [Ppu.position, hy', hd'], hodd⟩

/-- The last dot of the frame that starts at (0, 0) is dot (261, 340) (R351, R393). -/
theorem position_lastDot {s : State} (h0 : s.ppu.position = 0) :
    (executeCycles (s.ppu.frameLength - 1) s).ppu.position = 89341 := by
  obtain ⟨hlong, hshort⟩ := position_after s h0 (s.ppu.frameLength - 1)
  rw [Ppu.frameLength] at hlong hshort ⊢
  by_cases hs : s.ppu.oddFrame = true ∧ s.ppu.bgEnable = true
  · rw [if_pos hs] at hshort ⊢
    exact (hshort hs (by omega)).1
  · rw [if_neg hs] at hlong ⊢
    exact (hlong hs (by omega)).1

theorem Ppu.frameLength_pos (p : Ppu) : 89340 < p.frameLength := by
  rw [Ppu.frameLength]
  split <;> omega

/-- Settles O26: the position counts the dots, and the last one leads back to (0, 0). -/
theorem frameLength : Obligations.FrameLength := by
  intro s hy hd n
  have h0 : s.ppu.position = 0 := by rw [Ppu.position, hy, hd]
  have hpos := s.ppu.frameLength_pos
  have hn : s.ppu.frameLength - 1 + 1 = n := Nat.sub_add_cancel (by omega)
  have hlast : executeCycles n s = executeDot (executeCycles (s.ppu.frameLength - 1) s) := by
    rw [← hn, executeCycles_succ]
  obtain ⟨-, -, hdot, hodd⟩ := position_of_frameStart h0 (k := s.ppu.frameLength - 1) (by omega)
  obtain ⟨hend, hparity⟩ := executeDot_frameEnd (position_lastDot h0) hdot
  rw [hlast]
  refine ⟨hend, by rw [hparity, hodd], fun k hk hlt => ?_⟩
  obtain ⟨hge, -⟩ := position_of_frameStart h0 hlt
  omega

/-! The VBL flag within a frame (R354) -/

theorem executeDot_vbl (s : State) :
    (executeDot s).ppu.vbl =
      if s.ppu.scanline = 0 ∧ s.ppu.dot = 0 then (s.ppu.vbl || !s.ppu.suppressVbl)
      else if s.ppu.scanline = 20 ∧ s.ppu.dot = 0 then false else s.ppu.vbl :=
  (executeDot_sameVbl s).vbl.trans (flagActions_vbl s.ppu)

/-- Dot 6821 of a frame stands at (20, 0). -/
theorem position_dot6820 {s : State} (h0 : s.ppu.position = 0) :
    (executeCycles 6820 s).ppu.scanline = 20 ∧ (executeCycles 6820 s).ppu.dot = 0 := by
  have hlen := s.ppu.frameLength_pos
  obtain ⟨-, hpos, hdot, -⟩ := position_of_frameStart h0 (k := 6820) (by omega)
  have h := hpos (by omega)
  rw [Ppu.position] at h
  omega

theorem vbl_true_until {s : State} (h0 : s.ppu.position = 0) (hs : s.ppu.suppressVbl = false) (k : Nat) (hk : k < 6820) :
    (executeCycles (k + 1) s).ppu.vbl = true := by
  rw [executeCycles_succ, executeDot_vbl]
  induction k with
  | zero =>
    rw [Ppu.position] at h0
    rw [executeCycles, if_pos (by omega), hs]
    exact Bool.or_true _
  | succ k ih =>
    have hlen := s.ppu.frameLength_pos
    obtain ⟨-, hpos, -⟩ := position_of_frameStart h0 (k := k + 1) (by omega)
    have hpos := hpos (by omega)
    rw [Ppu.position] at hpos
    rw [if_neg (by omega), if_neg (by omega), executeCycles_succ, executeDot_vbl]
    exact ih (by omega)

/-- The flags after dot 6821, at (20, 0) (R354). -/
theorem executeDot_line20 {s : State} (hy : s.ppu.scanline = 20) (hd : s.ppu.dot = 0) :
    (executeDot s).ppu.vbl = false ∧ (executeDot s).ppu.sprite0Hit = false ∧ (executeDot s).ppu.overflow = false := by
  refine ⟨?_, ?_, ?_⟩
  · rw [executeDot_vbl, if_neg (by omega), if_pos ⟨hy, hd⟩]
  · have hcanvas := executeDot_canvas_noPixel (s := s) (fun h => by
      have := Ppu.visibleLine_iff.1 h.1
      omega)
    rw [flagActions_canvas, if_pos (c := s.ppu.scanline = 20 ∧ s.ppu.dot = 0) ⟨hy, hd⟩] at hcanvas
    exact (congrArg Canvas.sprite0Hit hcanvas :)
  · have hsprites : (executeDot s).ppu.overflow = (s.ppu.afterSprites s.cart).overflow :=
      (congrArg SpriteState.overflow (executeDot_spriteState s) :)
    have hflag : (flagActions s.ppu).overflow = if s.ppu.scanline = 20 ∧ s.ppu.dot = 0 then false else s.ppu.overflow :=
      (congrArg SpriteState.overflow (flagActions_spriteState s.ppu) :)
    have h64 : (flagActions s.ppu).dot ≠ 64 := by
      rw [(flagActions_frame s.ppu).dot]
      omega
    rw [hsprites, Ppu.afterSprites, spriteActions_overflow h64, hflag, if_pos ⟨hy, hd⟩]

/-- Settles O27: the flag is set at (0, 0), cleared at (20, 0), and not touched between or after. -/
theorem vblDots : Obligations.VblDots := by
  intro s hy hd hs n
  have h0 : s.ppu.position = 0 := by rw [Ppu.position, hy, hd]
  obtain ⟨hy20, hd20⟩ := position_dot6820 h0
  obtain ⟨hvbl, hhit, hoverflow⟩ := executeDot_line20 hy20 hd20
  have h6821 : executeCycles 6821 s = executeDot (executeCycles 6820 s) := executeCycles_succ 6820 s
  refine ⟨fun k h1 hk => ?on, fun k hk hn => ?off, ?hit, ?overflow⟩
  case on =>
    obtain ⟨j, rfl⟩ : ∃ j, k = j + 1 := ⟨k - 1, by omega⟩
    exact vbl_true_until h0 hs j (by omega)
  case off =>
    induction k, hk using Nat.le_induction with
    | base =>
      rw [h6821]
      exact hvbl
    | succ k hk ih =>
      rw [executeCycles_succ]
      refine executeDot_vbl_false (ih (by omega)) fun hpos => ?_
      obtain ⟨hge, -⟩ := position_of_frameStart h0 (k := k) hn
      omega
  case hit =>
    rw [h6821]
    exact hhit
  case overflow =>
    rw [h6821]
    exact hoverflow

/-! The NMI request within a frame (R353) -/

theorem executeCycles_ctrl (k : Nat) (s : State) : (executeCycles k s).ppu.ctrl = s.ppu.ctrl :=
  executeCycles_induct (P := fun u => u.ppu.ctrl = s.ppu.ctrl)
    (fun u hu => by
      obtain ⟨-, -, -, -, -, hctrl, -⟩ := executeDot_frame u
      rw [hctrl, hu]) k s rfl

theorem executeDot_suppressions (s : State) :
    (executeDot s).ppu.suppressVbl = (if s.ppu.scanline = 0 ∧ s.ppu.dot = 2 then false else s.ppu.suppressVbl) ∧
      (executeDot s).ppu.suppressNmi = (if s.ppu.scanline = 0 ∧ s.ppu.dot = 2 then false else s.ppu.suppressNmi) := by
  rw [(executeDot_sameVbl s).suppressVbl, (executeDot_sameVbl s).suppressNmi]
  exact flagActions_suppressions s.ppu

/-- The third dot of a frame stands at (0, 2), with the suppression of the NMI as the frame started. -/
theorem third_dot {s : State} (h0 : s.ppu.position = 0) :
    (executeCycles 2 s).ppu.scanline = 0 ∧ (executeCycles 2 s).ppu.dot = 2 ∧
      (executeCycles 2 s).ppu.suppressNmi = s.ppu.suppressNmi := by
  have hlen := s.ppu.frameLength_pos
  obtain ⟨-, hpos1, -⟩ := position_of_frameStart h0 (k := 1) (by omega)
  obtain ⟨-, hpos2, hdot2, -⟩ := position_of_frameStart h0 (k := 2) (by omega)
  have hpos1 := hpos1 (by omega)
  have hpos2 := hpos2 (by omega)
  rw [Ppu.position] at hpos1 hpos2 h0
  refine ⟨by omega, by omega, ?_⟩
  rw [executeCycles_succ, (executeDot_suppressions _).2, if_neg (by omega), executeCycles_succ,
    (executeDot_suppressions _).2, if_neg (by rw [executeCycles]; omega), executeCycles]

/-- Settles O28: the third dot is the only one at (0, 2). -/
theorem nmiOncePerFrame : Obligations.NmiOncePerFrame := by
  intro s hy hd n
  have h0 : s.ppu.position = 0 := by rw [Ppu.position, hy, hd]
  obtain ⟨hy2, hd2, hsup⟩ := third_dot h0
  refine ⟨fun k hk => ?_, fun t => by rw [executeDot_eq], ?_, ?_⟩
  · by_cases h2 : k = 2
    · subst h2
      rw [Ppu.requestsNmi, Ppu.nmiOnVbl, executeCycles_ctrl, hy2, hd2, hsup]
      simp
    · have hne : ¬((executeCycles k s).ppu.scanline = 0 ∧ (executeCycles k s).ppu.dot = 2) := fun h => by
        obtain ⟨hge, hpos, -⟩ := position_of_frameStart h0 hk
        rw [Ppu.position, h.1, h.2] at hge hpos
        omega
      rw [Ppu.requestsNmi, decide_eq_false hne]
      simp [h2]
  · rw [executeCycles_succ, (executeDot_suppressions _).1, if_pos ⟨hy2, hd2⟩]
  · rw [executeCycles_succ, (executeDot_suppressions _).2, if_pos ⟨hy2, hd2⟩]

/-! What no number of dots changes -/

/-- A dot without rendering leaves the background and sprite pipelines alone (R360, D22, D24). -/
theorem executeDot_notRendering {s : State} (h : s.ppu.rendering = false) :
    (executeDot s).ppu.v = s.ppu.v ∧ (executeDot s).ppu.latch = s.ppu.latch ∧
      (executeDot s).ppu.shifters = s.ppu.shifters ∧ (executeDot s).ppu.secOam = s.ppu.secOam ∧
      ((executeDot s).ppu.overflow = true → s.ppu.overflow = true) := by
  have hrun : ¬s.ppu.running := fun k => by
    obtain ⟨-, -, hr, -⟩ := k
    simp [h] at hr
  have hactive : s.ppu.active = false := by rw [Ppu.active, h, Bool.and_false]
  have hidle := afterFetch_idle (fun k : s.ppu.fetches => hrun k.1) s.cart
  have hsprites : (executeDot s).ppu.spriteState = (flagActions s.ppu).spriteState := by
    rw [executeDot_spriteState, Ppu.afterSprites, spriteActions_inactive]
    rw [(flagActions_frame s.ppu).active, hactive]
  rw [flagActions_spriteState] at hsprites
  obtain ⟨-, hsec, -, -, hoverflow⟩ := SpriteState.mk.inj hsprites
  refine ⟨?_, (executeDot_latch s).trans hidle.2, executeDot_shifters_idle hrun, hsec, fun ho => ?_⟩
  · rw [executeDot_v, hactive, h, hidle.1]
    simp
  · rw [hoverflow] at ho
    split at ho
    · exact absurd ho (by decide)
    · exact ho

theorem executeCycles_notRendering {s : State} (h : s.ppu.rendering = false) (n : Nat) :
    (executeCycles n s).ppu.v = s.ppu.v ∧ (executeCycles n s).ppu.latch = s.ppu.latch ∧
      (executeCycles n s).ppu.shifters = s.ppu.shifters ∧ (executeCycles n s).ppu.secOam = s.ppu.secOam ∧
      ((executeCycles n s).ppu.overflow = true → s.ppu.overflow = true) ∧ (executeCycles n s).ppu.rendering = false := by
  induction n with
  | zero => exact ⟨rfl, rfl, rfl, rfl, id, h⟩
  | succ n ih =>
    obtain ⟨hv, hlatch, hshifters, hsec, hoverflow, hr⟩ := ih
    obtain ⟨hv', hlatch', hshifters', hsec', hoverflow'⟩ := executeDot_notRendering hr
    rw [executeCycles_succ]
    refine ⟨hv'.trans hv, hlatch'.trans hlatch, hshifters'.trans hshifters, hsec'.trans hsec,
      fun k => hoverflow (hoverflow' k), ?_⟩
    obtain ⟨-, -, -, -, -, -, hmask, -⟩ := executeDot_frame (executeCycles n s)
    rw [← hr, Ppu.rendering, Ppu.rendering, Ppu.bgEnable, Ppu.bgEnable, Ppu.spriteEnable, Ppu.spriteEnable, hmask]

/-- Everything that no dot changes, rendering on or off, in the order of `Obligations.DotsLeave` (R350). -/
def State.keptByDots (s : State) :=
  (((s.x, s.y, s.sp, s.pc), s.a, s.p), s.opCycles, s.ram, s.cart, s.freeReads, s.ppu.ntA, s.ppu.ntB, s.ppu.palette, s.ppu.oam,
    s.ppu.ctrl, s.ppu.mask, s.ppu.t, s.ppu.fineX, s.ppu.w, s.ppu.readBuffer)

theorem executeDot_keptByDots (s : State) : (executeDot s).keptByDots = s.keptByDots := by
  obtain ⟨⟨⟨hx, hy, hsp, hpc⟩, ha, hp⟩, hcycles, hram, hcart, hreads, hctrl, hmask, ht, hfine, hw, hbuffer, hntA,
    hntB, hpalette, hoam⟩ := executeDot_frame s
  rw [State.keptByDots, hx, hy, hsp, hpc, ha, hp, hcycles, hram, hcart, hreads, hctrl, hmask, ht, hfine, hw, hbuffer,
    hntA, hntB, hpalette, hoam, State.keptByDots]

theorem executeCycles_keptByDots (n : Nat) (s : State) : (executeCycles n s).keptByDots = s.keptByDots :=
  executeCycles_induct (P := fun u => u.keptByDots = s.keptByDots) (fun u hu => (executeDot_keptByDots u).trans hu) n s rfl

/-- Settles O30: each dot keeps these, and without rendering the pipelines too. -/
theorem dotsLeave : Obligations.DotsLeave := by
  intro n s t
  have hkept := executeCycles_keptByDots n s
  simp only [State.keptByDots, Prod.mk.injEq] at hkept
  obtain ⟨hregisters, hcycles, hram, hcart, hreads, hntA, hntB, hpalette, hoam, hctrl, hmask, ht, hfine, hw,
    hbuffer⟩ := hkept
  refine ⟨hregisters, hcycles, hram, hcart, hreads, hntA, hntB, hpalette, hoam, hctrl, hmask, ht, hfine, hw, hbuffer,
    fun h => ?_⟩
  obtain ⟨hv, hlatch, hshifters, hsec, hoverflow, -⟩ := executeCycles_notRendering h n
  obtain ⟨hlo, hhi, hpal⟩ := Latch.mk.inj hlatch
  exact ⟨hv, hsec, hoverflow, hlo, hhi, hpal, Shifters.mk.inj hshifters⟩

/-! Sprite evaluation (R375, R376) -/

theorem clearedSecOam_read : ∀ j < 32, clearedSecOam.read j = 0xFF := by decide

theorem copySprite_read (p : Ppu) (i n a : Nat) :
    (copySprite p i n).secOam.read a =
      if 4 * n ≤ a ∧ a < 4 * n + 4 then p.oam.read (4 * i + (a - 4 * n)) else p.secOam.read a := by
  simp only [copySprite, Memory.read_write]
  by_cases h : 4 * n ≤ a ∧ a < 4 * n + 4
  · obtain ⟨j, rfl⟩ : ∃ j, a = 4 * n + j := ⟨a - 4 * n, by omega⟩
    have hj : j < 4 := by omega
    rw [if_pos h, Nat.add_sub_cancel_left]
    interval_cases j <;> simp
  · rw [if_neg h, if_neg (by omega), if_neg (by omega), if_neg (by omega), if_neg (by omega)]

/-- The sprites in range among the last `k`, in index order (R376). -/
def inRangeFrom (p : Ppu) (k : Nat) : List Nat := (List.range' (64 - k) k).filter (spriteInRange p)

theorem inRangeFrom_succ (p : Ppu) {k : Nat} (hk : k < 64) :
    inRangeFrom p (k + 1) = if spriteInRange p (63 - k) = true then (63 - k) :: inRangeFrom p k else inRangeFrom p k := by
  have hfirst : 64 - (k + 1) = 63 - k := by omega
  have hrest : 63 - k + 1 = 64 - k := by omega
  rw [inRangeFrom, hfirst, List.range'_succ, hrest, List.filter_cons, inRangeFrom]

/-- What evaluation of the last `k` sprites, with `n` found before them, leaves in secondary OAM, in the overflow flag and in
the mark of sprite 0 (R376). -/
structure Evaluated (p q : Ppu) (k n : Nat) : Prop where
  overflow : q.overflow = (p.overflow || decide (8 < n + (inRangeFrom p k).length))
  sprite0InRange : q.sprite0InRange = (p.sprite0InRange || (decide (k = 64) && spriteInRange p 0))
  copied : ∀ m j i, n + m < 8 → j < 4 → (inRangeFrom p k)[m]? = some i →
    q.secOam.read (4 * (n + m) + j) = p.oam.read (4 * i + j)
  kept : ∀ a, a < 4 * n ∨ 4 * min 8 (n + (inRangeFrom p k).length) ≤ a → q.secOam.read a = p.secOam.read a

theorem evaluated_zero {p : Ppu} {n : Nat} (hn : n ≤ 8) : Evaluated p p 0 n where
  overflow := by simp [inRangeFrom, hn]
  sprite0InRange := by simp
  copied m j i _ _ h := by simp [inRangeFrom] at h
  kept _ _ := rfl

/-- A sprite that is not in range changes nothing. -/
theorem Evaluated.skip {p q : Ppu} {k n : Nat} (h : Evaluated p q k n) (hk : k < 64) (hin : ¬spriteInRange p (63 - k) = true) :
    Evaluated p q (k + 1) n := by
  have hfound := inRangeFrom_succ p hk
  rw [if_neg hin] at hfound
  obtain ⟨hoverflow, hmark, hcopied, hkept⟩ := h
  refine ⟨by rw [hfound]; exact hoverflow, ?_, by rw [hfound]; exact hcopied, by rw [hfound]; exact hkept⟩
  rw [hmark, decide_eq_false (by omega)]
  by_cases h63 : k = 63
  · subst h63
    simp at hin
    simp [hin]
  · rw [decide_eq_false (by omega)]

/-- A sprite in range is copied while fewer than eight were found. -/
theorem Evaluated.copy {p q : Ppu} {k n : Nat} (hk : k < 64) (hn : n < 8) (hin : spriteInRange p (63 - k) = true)
    (h : Evaluated (copySprite p (63 - k) n) q k (n + 1)) : Evaluated p q (k + 1) n := by
  have hfound := inRangeFrom_succ p hk
  rw [if_pos hin] at hfound
  have hsame : inRangeFrom (copySprite p (63 - k) n) k = inRangeFrom p k := rfl
  obtain ⟨hoverflow, hmark, hcopied, hkept⟩ := h
  rw [hsame] at hoverflow hcopied hkept
  have hlength : n + 1 + (inRangeFrom p k).length = n + (inRangeFrom p (k + 1)).length := by
    rw [hfound, List.length_cons]
    omega
  rw [hlength] at hoverflow hkept
  refine ⟨hoverflow, ?mark, fun m j i hm hj hi => ?copied, fun a ha => ?kept⟩
  case mark =>
    rw [hmark, decide_eq_false (by omega), Bool.false_and, Bool.or_false]
    by_cases h63 : k = 63
    · subst h63
      simp at hin
      simp [copySprite, hin]
    · have hindex : (63 - k == 0) = false := beq_eq_false_iff_ne.2 (by omega)
      rw [decide_eq_false (by omega), copySprite, hindex]
      simp
  case copied =>
    cases m with
    | zero =>
      rw [hfound, List.getElem?_cons_zero] at hi
      obtain rfl := Option.some.inj hi
      rw [hkept _ (.inl (by omega)), copySprite_read, if_pos (by omega), Nat.add_zero, Nat.add_sub_cancel_left]
    | succ m =>
      rw [hfound, List.getElem?_cons_succ] at hi
      have hread := hcopied m j i (by omega) hj hi
      rwa [Nat.add_right_comm, Nat.add_assoc n] at hread
  case kept =>
    have hpos : 0 < (inRangeFrom p (k + 1)).length := by omega
    rw [hkept a (by omega), copySprite_read, if_neg (by omega)]

/-- The ninth sprite in range sets the overflow flag and ends evaluation. -/
theorem evaluated_full {p : Ppu} {k n : Nat} (hk : k < 63) (hn : n = 8) (hin : spriteInRange p (63 - k) = true) :
    Evaluated p { p with overflow := true } (k + 1) n where
  overflow := by
    rw [inRangeFrom_succ p (by omega), if_pos hin, List.length_cons, decide_eq_true (by omega), Bool.or_true]
  sprite0InRange := by
    rw [decide_eq_false (by omega), Bool.false_and, Bool.or_false]
  copied m j i hm := by omega
  kept _ _ := rfl

theorem evaluateFrom_evaluated (k n : Nat) (p : Ppu) (hk : k ≤ 64) (hn : n ≤ 8) (hstart : k = 64 → n < 8) :
    Evaluated p (evaluateFrom k n p) k n := by
  induction k generalizing n p with
  | zero => exact evaluated_zero hn
  | succ k ih =>
    rw [evaluateFrom]
    by_cases hin : spriteInRange p (63 - k) = true
    · rw [if_pos hin]
      by_cases h8 : n < 8
      · rw [if_pos h8]
        exact .copy (by omega) h8 hin (ih (n + 1) _ (by omega) (by omega) (by omega))
      · rw [if_neg h8]
        exact evaluated_full (by omega) (by omega) hin
    · rw [if_neg hin]
      exact (ih n p (by omega) hn (by omega)).skip (by omega) hin

theorem inRangeFrom_64 (p : Ppu) : inRangeFrom p 64 = (List.range 64).filter (spriteInRange p) := by
  rw [inRangeFrom, List.range_eq_range']

/-- Sprite 0 is among the sprites in range exactly when it is in range itself. -/
theorem zero_mem_inRange (p : Ppu) : decide (0 ∈ (List.range 64).filter (spriteInRange p)) = spriteInRange p 0 := by
  simp

theorem spriteHeight_eq (p : Ppu) : (spriteHeight p : Int) = if p.ctrl.getLsbD 5 = true then 16 else 8 := by
  rw [spriteHeight, Ppu.sprite8x16]
  split <;> rfl

/-- The range of a sprite, with the numbers of R376. -/
theorem spriteInRange_eq (p : Ppu) (i : Nat) :
    spriteInRange p i =
      decide (0 ≤ (p.scanline : Int) + 1 - 21 - ((p.oam.read (4 * i)).toNat + 1) ∧
        (p.scanline : Int) + 1 - 21 - ((p.oam.read (4 * i)).toNat + 1) ≤
          (if p.ctrl.getLsbD 5 = true then 16 else 8) - 1) := by
  rw [spriteInRange, spriteHeight_eq]
  rfl

/-! Sprite fetch (R377) -/

theorem fetchFrom_getElem? (c : Cartridge) (p : Ppu) (k : Nat) (es : List SpriteEntry) (j : Nat) :
    (fetchFrom c p k es)[j]? = es[j]?.map (fetchSprite c p (k + j)) := by
  induction es generalizing k j with
  | nil => rfl
  | cons e es ih =>
    cases j with
    | zero => rfl
    | succ j =>
      rw [fetchFrom, List.getElem?_cons_succ, List.getElem?_cons_succ, ih, Nat.add_assoc, Nat.add_comm 1]

theorem evenTile_toNat : ∀ b : Byte, (b &&& 0xFE#8).toNat = 2 * (b.toNat / 2) := by decide

/-- The pattern address with the numbers of R377, for sprites of height `h`. -/
theorem spritePatternAddr_eq (p : Ppu) (tile : Byte) (fy : Int) :
    let h : Int := if p.ctrl.getLsbD 5 = true then 16 else 8
    spritePatternAddr p tile fy = BitVec.ofInt 14
      (if h = 8 then (if p.ctrl.getLsbD 3 = true then 0x1000 else 0) + 16 * tile.toNat + fy
      else 0x1000 * (tile.toNat % 2 : Nat) + 32 * (tile.toNat / 2 : Nat) + (if 7 < fy then fy + 8 else fy)) := by
  intro h
  rw [spritePatternAddr, Ppu.sprite8x16]
  by_cases h5 : p.ctrl.getLsbD 5 = true
  · have htable : (if tile.getLsbD 0 = true then (0x1000 : Int) else 0) = 0x1000 * (tile.toNat % 2 : Nat) := by
      rw [BitVec.getLsbD, Nat.testBit_zero]
      rcases Nat.mod_two_eq_zero_or_one tile.toNat with h | h <;> simp [h]
    have hh : h = 16 := if_pos h5
    rw [if_pos h5, hh, if_neg (c := (16 : Int) = 8) (by decide)]
    dsimp only
    rw [htable, evenTile_toNat]
    split <;> congr 1 <;> omega
  · have htable : (p.spriteTable : Int) = if p.ctrl.getLsbD 3 = true then 0x1000 else 0 := by
      rw [Ppu.spriteTable]
      split <;> rfl
    have hh : h = 8 := if_neg h5
    rw [if_neg h5, hh, if_pos rfl, htable]

theorem fetchSprite_empty {c : Cartridge} {p : Ppu} {k : Nat} {e : SpriteEntry}
    (h : p.secOam.read (4 * k) = 0xFF ∧ p.secOam.read (4 * k + 1) = 0xFF ∧ p.secOam.read (4 * k + 2) = 0xFF ∧
      p.secOam.read (4 * k + 3) = 0xFF) :
    fetchSprite c p k e = { e with valid := false } := if_pos h

theorem fetchSprite_slot {c : Cartridge} {p : Ppu} {k : Nat} {e : SpriteEntry}
    (h : ¬(p.secOam.read (4 * k) = 0xFF ∧ p.secOam.read (4 * k + 1) = 0xFF ∧ p.secOam.read (4 * k + 2) = 0xFF ∧
      p.secOam.read (4 * k + 3) = 0xFF)) :
    let attr := p.secOam.read (4 * k + 2)
    let row := spriteRow p (p.secOam.read (4 * k))
    let a := spritePatternAddr p (p.secOam.read (4 * k + 1))
      (if attr.getLsbD 7 = true then (spriteHeight p : Int) - 1 - row else row)
    fetchSprite c p k e =
      { low := if attr.getLsbD 6 = true then rev8 (ppuRead c p a) else ppuRead c p a
        high := if attr.getLsbD 6 = true then rev8 (ppuRead c p (a + 8)) else ppuRead c p (a + 8)
        palette := attr.setWidth 2, front := !attr.getLsbD 5, xPos := p.secOam.read (4 * k + 3)
        isSpriteZero := k == 0 && p.sprite0InRange, valid := true } := if_neg h

/-- A plane byte in the order that bit 6 of the third sprite byte asks for (R377). -/
theorem flipped_getLsbD (attr b : Byte) {j : Nat} (hj : j < 8) :
    (if attr.getLsbD 6 = true then rev8 b else b).getLsbD j = b.getLsbD (if attr.getLsbD 6 = true then 7 - j else j) := by
  split
  · exact rev8_getLsbD b hj
  · rfl

/-! A dot of the sprite pipeline -/

theorem flagActions_idle {p : Ppu} (hy : p.scanline ≠ 0) (hd : p.dot ≠ 0) : flagActions p = p := by
  rw [flagActions, if_neg (by omega), if_neg (by omega), if_neg (by omega), if_neg (by omega)]

theorem lateActions_idle {p : Ppu} (h256 : p.dot ≠ 256) (h303 : p.dot ≠ 303) (h340 : p.dot ≠ 340) :
    lateActions p = p := by
  rw [lateActions, if_neg h256, if_neg (by omega), if_neg (by omega)]

/-- Dot 260 fetches the sprites and does nothing else (R371, R377). -/
theorem executeDot_dot260 {s : State} (hactive : s.ppu.active = true) (hd : s.ppu.dot = 260) :
    (executeDot s).ppu = { fetchSprites s.cart s.ppu with dot := 261 } := by
  obtain ⟨hlo, -, -⟩ := Ppu.active_iff.1 hactive
  let q := fetchSprites s.cart s.ppu
  have hdot : q.dot = 260 := hd
  have hrun : ¬q.running := fun k => by
    obtain ⟨-, -, -, hregion⟩ := k
    omega
  have hsprites : s.ppu.afterSprites s.cart = q := by
    rw [Ppu.afterSprites, flagActions_idle (by omega) (by omega), spriteActions, if_pos hactive, if_neg (by omega),
      if_neg (by omega), if_pos hd]
  have hactions : dotActions s.cart s.ppu = q := by
    rw [dotActions_eq, Ppu.afterFetch, Ppu.afterPixel, hsprites, reloadAction_idle hrun, pixelAction_idle (by omega),
      shiftAction_idle hrun, fetchAction_idle (fun k => hrun k.1), lateActions_idle (by omega) (by omega) (by omega)]
  have hlength : 340 ≤ q.lineLength := by
    rw [Ppu.lineLength]
    split <;> omega
  have hppu : (executeDot s).ppu = advanceDot (dotActions s.cart s.ppu) := by rw [executeDot_eq]
  rw [hppu, hactions, advanceDot, if_pos (by omega), hdot]

theorem evaluateFrom_sprites (k n : Nat) (p : Ppu) :
    (evaluateFrom k n p).sprites = p.sprites ∧ (evaluateFrom k n p).oamAddr = p.oamAddr := by
  induction k generalizing n p with
  | zero => exact ⟨rfl, rfl⟩
  | succ k ih =>
    rw [evaluateFrom]
    split
    · split
      · exact ih (n + 1) (copySprite p (63 - k) n)
      · exact ⟨rfl, rfl⟩
    · exact ih n p

theorem spriteActions_oamAddr (c : Cartridge) (p : Ppu) : (spriteActions c p).oamAddr = p.oamAddr := by
  unfold spriteActions
  split
  · split
    · rfl
    split
    · exact (evaluateFrom_sprites 64 0 p).2
    split <;> rfl
  · rfl

/-- Only the fetch at dot 260 changes the pipeline's entries (R377). -/
theorem spriteActions_sprites {p : Ppu} (h : ¬(p.active = true ∧ p.dot = 260)) (c : Cartridge) :
    (spriteActions c p).sprites = p.sprites := by
  unfold spriteActions
  split
  case isTrue hactive =>
    rw [if_neg (c := p.dot = 260) (fun hd => h ⟨hactive, hd⟩)]
    split
    · rfl
    split
    · exact (evaluateFrom_sprites 64 0 p).1
    · rfl
  case isFalse => rfl

/-- OAMAddr and the pipeline's entries after a dot that does not fetch (R352). -/
theorem executeDot_pipeline (s : State) :
    (executeDot s).ppu.oamAddr = (if s.ppu.scanline = 0 ∧ s.ppu.dot = 0 then 0 else s.ppu.oamAddr) ∧
    (¬(s.ppu.active = true ∧ s.ppu.dot = 260) →
      (executeDot s).ppu.sprites = if s.ppu.scanline = 0 ∧ s.ppu.dot = 0 then
        s.ppu.sprites.map (fun e => { e with valid := false }) else s.ppu.sprites) := by
  have hframe := flagActions_frame s.ppu
  obtain ⟨haddr, -, hsprites, -, -⟩ := SpriteState.mk.inj (executeDot_spriteState s)
  obtain ⟨haddr', -, hsprites', -, -⟩ := SpriteState.mk.inj (flagActions_spriteState s.ppu)
  rw [haddr, hsprites, Ppu.afterSprites, spriteActions_oamAddr, haddr', ← hsprites']
  refine ⟨rfl, fun h => spriteActions_sprites ?_ _⟩
  rw [hframe.active, hframe.dot]
  exact h

/-- The slots that dot 0 clears (R375). -/
theorem executeDot_clear {s : State} (hactive : s.ppu.active = true) (hd : s.ppu.dot = 0) :
    (executeDot s).ppu.secOam = clearedSecOam ∧ (executeDot s).ppu.sprite0InRange = false := by
  have hframe := flagActions_frame s.ppu
  have hsprites : s.ppu.afterSprites s.cart = clearSecOam (flagActions s.ppu) := by
    rw [Ppu.afterSprites, spriteActions, if_pos (hframe.active.trans hactive), if_pos (hframe.dot.trans hd)]
  obtain ⟨-, hsec, -, hmark, -⟩ := SpriteState.mk.inj (executeDot_spriteState s)
  rw [hsec, hmark, hsprites]
  exact ⟨rfl, rfl⟩

/-- Dot 64 leaves what evaluation leaves (R376). -/
theorem executeDot_evaluate {s : State} (hactive : s.ppu.active = true) (hd : s.ppu.dot = 64) :
    Evaluated s.ppu (executeDot s).ppu 64 0 := by
  obtain ⟨hlo, -, -⟩ := Ppu.active_iff.1 hactive
  have hsprites : s.ppu.afterSprites s.cart = evaluateFrom 64 0 s.ppu := by
    rw [Ppu.afterSprites, flagActions_idle (by omega) (by omega), spriteActions, if_pos hactive, if_neg (by omega), if_pos hd,
      evaluateSprites]
  obtain ⟨-, hsec, -, hmark, hoverflow⟩ := SpriteState.mk.inj (executeDot_spriteState s)
  rw [hsprites] at hsec hmark hoverflow
  obtain ⟨overflow, mark, copied, kept⟩ :=
    evaluateFrom_evaluated 64 0 s.ppu (Nat.le_refl 64) (Nat.zero_le 8) (fun _ => by decide)
  rw [← hsec] at copied kept
  exact ⟨hoverflow.trans overflow, hmark.trans mark, copied, kept⟩

/-- Settles O31: the clear, evaluation and the fetch by their dots, and the pipeline at every other dot. -/
theorem spriteEvaluation : Obligations.SpriteEvaluation := by
  refine ⟨fun s hlo hhi hr => ?dots, fun s => ?pipeline⟩
  case dots =>
    have hactive : s.ppu.active = true := Ppu.active_iff.2 ⟨hlo, hhi, hr⟩
    intro p q h row
    refine ⟨fun hd => ?clear, fun hd => ?evaluate, fun hd => ?fetch⟩
    case clear =>
      obtain ⟨hsec, hmark⟩ := executeDot_clear hactive hd
      refine ⟨fun j hj => ?_, hmark⟩
      have hq : q.secOam = clearedSecOam := hsec
      rw [hq]
      exact clearedSecOam_read j hj
    case evaluate =>
      intro fy found
      obtain ⟨overflow, mark, copied, kept⟩ := executeDot_evaluate hactive hd
      have hfound : inRangeFrom p 64 = found := by
        rw [inRangeFrom_64]
        exact congrArg (fun f => (List.range 64).filter f) (funext (spriteInRange_eq p))
      have hzero : spriteInRange p 0 = decide (0 ∈ found) := by
        rw [← hfound, inRangeFrom_64]
        exact (zero_mem_inRange p).symm
      rw [hfound, Nat.zero_add] at overflow kept
      rw [hfound] at copied
      rw [hzero] at mark
      refine ⟨overflow, mark, fun n k i hn hk hi => ?_, fun j hj => kept j (.inr hj)⟩
      have hread := copied n k i (by omega) hk hi
      rwa [Nat.zero_add] at hread
    case fetch =>
      have hq : q = { fetchSprites s.cart p with dot := 261 } := executeDot_dot260 hactive hd
      have hsprites : q.sprites = fetchFrom s.cart p 0 p.sprites := congrArg Ppu.sprites hq
      refine ⟨?_, ?_, fun k e he => ?_⟩
      · rw [hsprites]
        exact hq
      · rw [hsprites, fetchFrom_length]
      have hentry : q.sprites[k]? = some (fetchSprite s.cart p k e) := by
        rw [hsprites, fetchFrom_getElem?, he, Nat.zero_add, Option.map_some]
      intro y tile attr x empty fy a column
      have haddr : spritePatternAddr p tile fy = BitVec.ofInt 14 a := spritePatternAddr_eq p tile fy
      have hfy : (if attr.getLsbD 7 = true then (spriteHeight p : Int) - 1 - spriteRow p y else spriteRow p y) = fy := by
        rw [spriteHeight_eq]
        rfl
      rw [hentry]
      refine ⟨fun hempty => ?_, fun hslot => ⟨_, rfl, ?_⟩⟩
      · rw [fetchSprite_empty hempty]
      · rw [fetchSprite_slot hslot, hfy, haddr]
        refine ⟨fun j hj => ⟨flipped_getLsbD attr _ hj, ?_⟩, ?_, rfl, rfl, rfl, rfl⟩
        · rw [BitVec.ofInt_add]
          exact flipped_getLsbD attr _ hj
        · exact BitVec.toNat_setWidth ..
  case pipeline =>
    intro p q start fetch
    obtain ⟨haddr, hsprites⟩ := executeDot_pipeline s
    have hfetch : ¬fetch → ¬(p.active = true ∧ p.dot = 260) := fun h k => by
      obtain ⟨hlo, hhi, hr⟩ := Ppu.active_iff.1 k.1
      exact h ⟨hlo, hhi, hr, k.2⟩
    refine ⟨fun h => ⟨haddr.trans (if_pos h), ?_⟩, fun h => haddr.trans (if_neg h),
      fun h hf => (hsprites (hfetch hf)).trans (if_neg h)⟩
    have hdot : p.dot = 0 := h.2
    have h260 : ¬(p.active = true ∧ p.dot = 260) := by omega
    exact (hsprites h260).trans (if_pos h)

/-! The pixel of a dot (R361, R385 to R388), as numbers -/

/-- The background pixel, `palette:2 | pattern:2`, as a number (R361, R367, D14, D17). -/
def Ppu.bgNumber (p : Ppu) : Nat :=
  let bit (r : BitVec 16) : Nat := (r.getLsbD p.fineX.toNat).toNat
  if p.mask.getLsbD 3 = false ∨ (p.mask.getLsbD 1 = true ∧ p.dot < 8) ∨ 2 * bit p.bgHi + bit p.bgLo = 0 then 0
  else 8 * bit p.palHi + 4 * bit p.palLo + 2 * bit p.bgHi + bit p.bgLo

/-- The pattern bits of an entry at a picture column, as a number (R385). -/
def patternNumber (d : Nat) (e : SpriteEntry) : Nat :=
  if e.valid = true ∧ e.xPos.toNat ≤ d ∧ d ≤ e.xPos.toNat + 7 then
    2 * (e.high.getLsbD (e.xPos.toNat + 7 - d)).toNat + (e.low.getLsbD (e.xPos.toNat + 7 - d)).toNat
  else 0

/-- The first entry with an opaque pixel at this dot, where sprites are shown (R385, R388). -/
def Ppu.winner (p : Ppu) : Option SpriteEntry :=
  if p.mask.getLsbD 4 = true ∧ (p.mask.getLsbD 2 = false ∨ 8 ≤ p.dot) then
    p.sprites.find? (fun e => decide (patternNumber p.dot e ≠ 0))
  else none

/-- The palette index that the multiplexer chooses, as a number (R386). -/
def Ppu.pixelNumber (p : Ppu) : Nat :=
  match p.winner with
  | some e =>
    if p.bgNumber % 4 = 0 ∨ e.front = true ∨ p.mask.getLsbD 3 = false then 16 + 4 * e.palette.toNat + patternNumber p.dot e
    else p.bgNumber
  | none => p.bgNumber

theorem collapse_toNat : ∀ palHi palLo hi lo : Bool,
    (collapse (BitVec.ofBool palHi ++ BitVec.ofBool palLo ++ BitVec.ofBool hi ++ BitVec.ofBool lo)).toNat =
      if 2 * hi.toNat + lo.toNat = 0 then 0 else 8 * palHi.toNat + 4 * palLo.toNat + 2 * hi.toNat + lo.toNat := by
  decide

theorem bgPixel_toNat (p : Ppu) : (bgPixel p).toNat = p.bgNumber := by
  have hclip : p.bgClipOn = true ∧ p.dot ≤ 7 ↔ p.mask.getLsbD 1 = true ∧ p.dot < 8 := by
    rw [Ppu.bgClipOn, bgClipActive, beq_true, Nat.lt_succ_iff]
  have hoff : p.bgEnable = false ∨ (p.bgClipOn = true ∧ p.dot ≤ 7) ↔
      p.mask.getLsbD 3 = false ∨ (p.mask.getLsbD 1 = true ∧ p.dot < 8) := by
    rw [hclip, Ppu.bgEnable]
  rw [bgPixel, Ppu.bgNumber]
  by_cases h : p.mask.getLsbD 3 = false ∨ (p.mask.getLsbD 1 = true ∧ p.dot < 8)
  · rw [if_pos (hoff.2 h), if_pos (or_assoc.1 (.inl h))]
    rfl
  · rw [if_neg (mt hoff.1 h), collapse_toNat]
    simp only [← or_assoc, h, false_or]

theorem bgTransparent_iff : ∀ x : BitVec 4, bgTransparent x = true ↔ x.toNat % 4 = 0 := by decide

theorem spritePattern_toNat (e : SpriteEntry) (d : Nat) : (spritePattern e d).toNat = patternNumber d e := by
  have hbits : ∀ hi lo : Bool, (BitVec.ofBool hi ++ BitVec.ofBool lo).toNat = 2 * hi.toNat + lo.toNat := by decide
  rw [spritePattern, patternNumber]
  by_cases h : e.valid = true ∧ e.xPos.toNat ≤ d ∧ d ≤ e.xPos.toNat + 7
  · obtain ⟨hvalid, hlo, hhi⟩ := h
    have hcolumn : 7 - (d - e.xPos.toNat) = e.xPos.toNat + 7 - d := by omega
    rw [if_pos ⟨hvalid, hlo, by omega⟩, if_pos ⟨hvalid, hlo, hhi⟩, hbits, hcolumn]
  · rw [if_neg (fun k => h ⟨k.1, k.2.1, by omega⟩), if_neg h]
    rfl

theorem firstOpaque_eq (d : Nat) (es : List SpriteEntry) :
    firstOpaque d es =
      (es.find? (fun e => decide (patternNumber d e ≠ 0))).map (fun e => (e, spritePattern e d)) := by
  induction es with
  | nil => rfl
  | cons e es ih =>
    have hopaque : spritePattern e d ≠ 0 ↔ patternNumber d e ≠ 0 := by
      rw [← spritePattern_toNat, not_iff_not, ← BitVec.toNat_inj]
      rfl
    rw [firstOpaque]
    by_cases h : patternNumber d e ≠ 0
    · rw [if_pos (hopaque.2 h), List.find?_cons_of_pos (by simpa using h), Option.map_some]
    · rw [if_neg (mt hopaque.1 h), List.find?_cons_of_neg (by simpa using h), ih]

theorem spriteWinner_eq (p : Ppu) : spriteWinner p = p.winner.map (fun e => (e, spritePattern e p.dot)) := by
  have hshown : p.spriteEnable = true ∧ ¬(p.spriteClipOn = true ∧ p.dot ≤ 7) ↔
      p.mask.getLsbD 4 = true ∧ (p.mask.getLsbD 2 = false ∨ 8 ≤ p.dot) := by
    rw [Ppu.spriteEnable, Ppu.spriteClipOn, sprClipActive, beq_true, not_and_or, Bool.not_eq_true, Nat.not_le,
      Nat.lt_iff_add_one_le]
  rw [spriteWinner, Ppu.winner]
  by_cases h : p.mask.getLsbD 4 = true ∧ (p.mask.getLsbD 2 = false ∨ 8 ≤ p.dot)
  · rw [if_pos (hshown.2 h), if_pos h, firstOpaque_eq]
  · rw [if_neg (mt hshown.1 h), if_neg h]
    rfl

theorem muxPixel_eq (p : Ppu) : muxPixel p (bgPixel p) (spriteWinner p) = BitVec.ofNat 5 p.pixelNumber := by
  have hsprite : ∀ palette pat : BitVec 2,
      spriteIndex palette pat = BitVec.ofNat 5 (16 + 4 * palette.toNat + pat.toNat) := by decide
  have hbackground : ∀ x : BitVec 4, 0#1 ++ x = BitVec.ofNat 5 x.toNat := by decide
  rw [spriteWinner_eq, Ppu.pixelNumber]
  cases p.winner with
  | none => rw [Option.map_none, muxPixel, hbackground, bgPixel_toNat]
  | some e =>
    simp only [Option.map_some, muxPixel, bgTransparent_iff, bgPixel_toNat, Ppu.bgEnable]
    split
    · rw [hsprite, spritePattern_toNat]
    · rw [hbackground, bgPixel_toNat]

/-- Sprite 0 is hit where its pixel wins over an opaque background pixel (R387). -/
theorem hitsSprite0_iff (p : Ppu) :
    hitsSprite0 p (bgPixel p) (spriteWinner p) = true ↔
      p.dot < 255 ∧ p.bgNumber % 4 ≠ 0 ∧ ∃ e, p.winner = some e ∧ e.isSpriteZero = true := by
  have hbg : p.bgNumber % 4 ≠ 0 → p.bgEnable = true := fun h => by
    by_contra hoff
    rw [Ppu.bgEnable, Bool.not_eq_true] at hoff
    exact h (by rw [Ppu.bgNumber, if_pos (.inl hoff)])
  have hsprite : ∀ e, p.winner = some e → p.spriteEnable = true := fun e h => by
    by_contra hoff
    rw [Ppu.winner, if_neg (fun k => hoff k.1)] at h
    cases h
  have htransparent : (!bgTransparent (bgPixel p)) = true ↔ p.bgNumber % 4 ≠ 0 := by
    rw [Bool.not_eq_true', ← Bool.not_eq_true, bgTransparent_iff, bgPixel_toNat]
  rw [spriteWinner_eq]
  cases hw : p.winner with
  | none => simp [hitsSprite0]
  | some e =>
    simp only [Option.map_some, hitsSprite0, Bool.and_eq_true, htransparent, decide_eq_true_iff, Option.some.injEq,
      exists_eq_left', hsprite e hw, and_true]
    constructor
    · rintro ⟨⟨⟨hzero, -⟩, hopaque⟩, hdot⟩
      exact ⟨by omega, hopaque, hzero⟩
    · rintro ⟨hdot, hopaque, hzero⟩
      exact ⟨⟨⟨hzero, hbg hopaque⟩, hopaque⟩, by omega⟩

/-! The pixel within the dot -/

/-- The reload leaves the low bytes of the registers, from which the pixel is taken (R361, R364). -/
theorem reloadAction_lowBits (p : Ppu) {i : Nat} (hi : i < 8) :
    (reloadAction p).bgLo.getLsbD i = p.bgLo.getLsbD i ∧ (reloadAction p).bgHi.getLsbD i = p.bgHi.getLsbD i ∧
      (reloadAction p).palLo.getLsbD i = p.palLo.getLsbD i ∧ (reloadAction p).palHi.getLsbD i = p.palHi.getLsbD i := by
  unfold reloadAction
  split
  · simp only [reloadShifters, loadHigh_getLsbD, if_pos hi, and_self]
  · exact ⟨rfl, rfl, rfl, rfl⟩

theorem afterSprites_visible {p : Ppu} (hvisible : p.visibleLine = true) (hd : p.dot ≤ 255) (c : Cartridge) :
    (p.afterSprites c).sprites = p.sprites := by
  have hframe := flagActions_frame p
  have hy := (Ppu.visibleLine_iff.1 hvisible).1
  obtain ⟨-, -, hsprites, -, -⟩ := SpriteState.mk.inj (flagActions_spriteState p)
  rw [Ppu.afterSprites, spriteActions_sprites (by rw [hframe.dot]; omega), hsprites, if_neg (by omega)]

/-- The earlier steps of a dot leave everything that its pixel is made of. -/
theorem pixelNumber_reload {p : Ppu} (hvisible : p.visibleLine = true) (hd : p.dot ≤ 255) (c : Cartridge) :
    (reloadAction (p.afterSprites c)).bgNumber = p.bgNumber ∧ (reloadAction (p.afterSprites c)).winner = p.winner ∧
      (reloadAction (p.afterSprites c)).pixelNumber = p.pixelNumber := by
  have hframe := (afterSprites_frame p c).trans (reloadAction_frame _)
  obtain ⟨hlo, hhi, hpalLo, hpalHi⟩ := reloadAction_lowBits (p.afterSprites c) p.fineX.isLt
  obtain ⟨hlo', hhi', hpalLo', hpalHi'⟩ := Shifters.mk.inj (afterSprites_shifters p c)
  have hsprites : (reloadAction (p.afterSprites c)).sprites = p.sprites := by
    have h : (reloadAction (p.afterSprites c)).spriteState = (p.afterSprites c).spriteState :=
      (congrArg Parts.spriteState (reloadAction_parts (p.afterSprites c)) :)
    obtain ⟨-, -, hsame, -, -⟩ := SpriteState.mk.inj h
    exact hsame.trans (afterSprites_visible hvisible hd c)
  have hbg : (reloadAction (p.afterSprites c)).bgNumber = p.bgNumber := by
    simp only [Ppu.bgNumber, hframe.mask, hframe.dot, hframe.fineX, hlo, hhi, hpalLo, hpalHi, hlo', hhi', hpalLo', hpalHi']
  have hwinner : (reloadAction (p.afterSprites c)).winner = p.winner := by
    rw [Ppu.winner, hframe.mask, hframe.dot, hsprites, Ppu.winner]
  refine ⟨hbg, hwinner, ?_⟩
  rw [Ppu.pixelNumber, hbg, hwinner, hframe.mask, hframe.dot, Ppu.pixelNumber]

/-- The scanline buffer and the sprite-0 flag after a dot that draws a pixel (R357, R361, R387). -/
theorem executeDot_canvas_pixel {s : State} (hvisible : s.ppu.visibleLine = true) (hd : s.ppu.dot ≤ 255) :
    (executeDot s).ppu.scanlineBuffer =
        (if s.ppu.dot = 0 then List.replicate 256 0 else s.ppu.scanlineBuffer).set s.ppu.dot
          (BitVec.ofNat 5 s.ppu.pixelNumber) ∧
      ((executeDot s).ppu.sprite0Hit = true ↔ s.ppu.sprite0Hit = true ∨
        (s.ppu.dot < 255 ∧ s.ppu.bgNumber % 4 ≠ 0 ∧ ∃ e, s.ppu.winner = some e ∧ e.isSpriteZero = true)) := by
  have hframe := (afterSprites_frame s.ppu s.cart).trans (reloadAction_frame _)
  have hy := (Ppu.visibleLine_iff.1 hvisible).1
  obtain ⟨hbg, hwinner, hpixel⟩ := pixelNumber_reload hvisible hd s.cart
  obtain ⟨hbuffer, hhit⟩ := Canvas.mk.inj (executeDot_canvas s)
  obtain ⟨hbuffer', hhit'⟩ := Canvas.mk.inj
    ((reload_afterSprites_canvas s.ppu s.cart).trans (flagActions_canvas s.ppu))
  have hdraws : (reloadAction (s.ppu.afterSprites s.cart)).visibleLine = true ∧
      (reloadAction (s.ppu.afterSprites s.cart)).dot ≤ 255 := by
    rw [hframe.visibleLine, hframe.dot]
    exact ⟨hvisible, hd⟩
  rw [hbuffer, hhit, Ppu.afterPixel, pixelAction, if_pos hdraws]
  dsimp only
  rw [hbuffer', hhit', muxPixel_eq, hpixel, hframe.dot, if_neg (c := s.ppu.scanline = 20 ∧ s.ppu.dot = 0) (by omega),
    Bool.or_eq_true, hitsSprite0_iff, hbg, hwinner, hframe.dot]
  refine ⟨?_, Iff.rfl⟩
  simp only [hvisible, true_and]

/-! The rows and the delivery of the frame (R390, R392) -/

theorem outputRow_ifVisible_output (p : Ppu) :
    (if p.visibleLine = true then outputRow p else p).output =
      if p.visibleLine = true then { p.output with frame := p.frame.set (p.scanline - 21) (p.scanlineBuffer.map (colourOf p)) }
      else p.output := by
  split <;> rfl

theorem dot256_output (p : Ppu) :
    (dot256 p).output =
      if p.visibleLine = true then { p.output with frame := p.frame.set (p.scanline - 21) (p.scanlineBuffer.map (colourOf p)) }
      else p.output := by
  unfold dot256
  by_cases h : p.active = true
  · simp only [if_pos h]
    exact outputRow_ifVisible_output { p with v := reloadHorizontal (incFineY p.v) p.t }
  · simp only [if_neg h]
    exact outputRow_ifVisible_output p

theorem lateActions_output (p : Ppu) :
    (lateActions p).output =
      if p.visibleLine = true ∧ p.dot = 256 then
        { p.output with frame := p.frame.set (p.scanline - 21) (p.scanlineBuffer.map (colourOf p)) }
      else if p.scanline = 260 ∧ p.dot = 340 then
        { frame := p.frame, lastFrame := some p.frame, framesOut := p.framesOut + 1 }
      else p.output := by
  unfold lateActions
  by_cases h256 : p.dot = 256
  · rw [if_pos h256, dot256_output]
    by_cases hv : p.visibleLine = true
    · rw [if_pos hv, if_pos ⟨hv, h256⟩]
    · rw [if_neg hv, if_neg (fun k => hv k.1), if_neg (by omega)]
  rw [if_neg h256, if_neg (c := p.visibleLine = true ∧ p.dot = 256) (fun k => h256 k.2)]
  by_cases h303 : p.scanline = 20 ∧ p.dot = 303 ∧ p.rendering = true
  · rw [if_pos h303, if_neg (by omega)]
    rfl
  rw [if_neg h303]
  split <;> rfl

theorem afterFetch_output (p : Ppu) (c : Cartridge) : (p.afterFetch c).output = p.output :=
  (congrArg Parts.output (afterFetch_parts p c) :)

theorem afterFetch_canvas (p : Ppu) (c : Cartridge) : (p.afterFetch c).canvas = (p.afterPixel c).canvas :=
  (congrArg Parts.canvas (afterFetch_parts p c) :)

/-- The colours of a row, through palette RAM (R390). -/
theorem colourOf_eq (c : Cartridge) (p : Ppu) (x : PalIndex) :
    colourOf p x =
      Config.paletteRgb (BitVec.ofNat 6 ((ppuRead c p (BitVec.ofNat 14 (0x3F00 + x.toNat))).toNat % 64)) := by
  have hx := x.isLt
  have haddr : (BitVec.ofNat 14 (0x3F00 + x.toNat)).toNat = 0x3F00 + x.toNat := by
    rw [BitVec.toNat_ofNat]
    omega
  have hindex : palIndex (0x3F00 + x.toNat) = palIndex x.toNat := (palIndex_eq_iff _ _).2 (.inl (by omega))
  rw [colourOf, ppuRead_palette (by omega), haddr, hindex]
  congr 1
  apply BitVec.eq_of_toNat_eq
  rw [BitVec.toNat_setWidth, BitVec.toNat_ofNat]
  omega

/-- The frame and its delivery after a dot (R390, R392). -/
theorem executeDot_output (s : State) :
    (executeDot s).ppu.output =
      if s.ppu.visibleLine = true ∧ s.ppu.dot = 256 then
        { s.ppu.output with
          frame := s.ppu.frame.set (s.ppu.scanline - 21) (s.ppu.scanlineBuffer.map (colourOf s.ppu)) }
      else if s.ppu.scanline = 260 ∧ s.ppu.dot = 340 then
        { frame := s.ppu.frame, lastFrame := some s.ppu.frame, framesOut := s.ppu.framesOut + 1 }
      else s.ppu.output := by
  have hframe := afterFetch_frame s.ppu s.cart
  have hout := afterFetch_output s.ppu s.cart
  obtain ⟨hframes, -, hcount⟩ := Output.mk.inj hout
  have hdot : (executeDot s).ppu.output = (lateActions (s.ppu.afterFetch s.cart)).output :=
    (congrArg Parts.output (executeDot_parts s) :)
  rw [hdot, lateActions_output, hframe.visibleLine, hframe.dot, hframe.scanline, hout, hframes, hcount]
  by_cases h256 : s.ppu.visibleLine = true ∧ s.ppu.dot = 256
  · have hcanvas : (s.ppu.afterFetch s.cart).canvas = (flagActions s.ppu).canvas := by
      rw [afterFetch_canvas, ← executeDot_canvas, executeDot_canvas_noPixel (by omega)]
    obtain ⟨hbuffer, -⟩ := Canvas.mk.inj (hcanvas.trans (flagActions_canvas s.ppu))
    have hcolour : colourOf (s.ppu.afterFetch s.cart) = colourOf s.ppu := by
      funext x
      rw [colourOf, hframe.palette, colourOf]
    rw [if_pos h256, if_pos h256, hcolour, hbuffer, if_neg (by omega)]
  · rw [if_neg h256, if_neg h256]

theorem executeDot_framesOut (s : State) :
    (executeDot s).ppu.framesOut = s.ppu.framesOut + (if s.ppu.scanline = 260 ∧ s.ppu.dot = 340 then 1 else 0) := by
  have h := executeDot_output s
  by_cases h256 : s.ppu.visibleLine = true ∧ s.ppu.dot = 256
  · rw [if_pos h256] at h
    rw [if_neg (by omega)]
    exact (congrArg Output.framesOut h :)
  rw [if_neg h256] at h
  by_cases h340 : s.ppu.scanline = 260 ∧ s.ppu.dot = 340
  · rw [if_pos h340] at h ⊢
    exact (congrArg Output.framesOut h :)
  · rw [if_neg h340] at h ⊢
    exact (congrArg Output.framesOut h :)

/-- From scanline 21 on, a dot of the frame moves the position on by one (R351). -/
theorem position_past {s : State} (h0 : s.ppu.position = 0) {k n : Nat} (hk : k + 1 < s.ppu.frameLength) (hn : 7161 ≤ n) :
    n < (executeCycles (k + 1) s).ppu.position ↔ n ≤ (executeCycles k s).ppu.position := by
  obtain ⟨hlong, hshort⟩ := position_after s h0 k
  obtain ⟨hlong', hshort'⟩ := position_after s h0 (k + 1)
  rw [Ppu.frameLength] at hk
  by_cases hs : s.ppu.oddFrame = true ∧ s.ppu.bgEnable = true
  · rw [if_pos hs] at hk
    rw [(hshort hs (by omega)).1, (hshort' hs (by omega)).1]
    split <;> split <;> omega
  · rw [if_neg hs] at hk
    rw [(hlong hs (by omega)).1, (hlong' hs (by omega)).1]
    omega

theorem lastVisibleDot_iff {p : Ppu} (hd : p.dot < 341) : p.scanline = 260 ∧ p.dot = 340 ↔ p.position = 89000 := by
  rw [Ppu.position]
  omega

/-- Before the end of a frame, the frame was delivered exactly when dot (260, 340) has passed (R392). -/
theorem framesOut_within {s : State} (h0 : s.ppu.position = 0) (k : Nat) (hk : k < s.ppu.frameLength) :
    (executeCycles k s).ppu.framesOut =
      s.ppu.framesOut + if 89000 < (executeCycles k s).ppu.position then 1 else 0 := by
  induction k with
  | zero => simp [executeCycles, h0]
  | succ k ih =>
    obtain ⟨-, -, hdot, -⟩ := position_of_frameStart h0 (k := k) (by omega)
    have hlast := lastVisibleDot_iff hdot
    have hpast := position_past h0 hk (n := 89000) (by omega)
    have hcount := executeDot_framesOut (executeCycles k s)
    rw [← executeCycles_succ, ih (by omega)] at hcount
    rw [hcount]
    by_cases h : (executeCycles k s).ppu.position = 89000
    · rw [if_neg (by omega), if_pos (hlast.2 h), if_pos (by omega)]
    · rw [if_neg (c := _ ∧ _) (mt hlast.1 h), Nat.add_zero]
      congr 1
      by_cases hlt : 89000 < (executeCycles k s).ppu.position
      · rw [if_pos hlt, if_pos (by omega)]
      · rw [if_neg hlt, if_neg (by omega)]

theorem framesOut_frame {s : State} (h0 : s.ppu.position = 0) :
    (executeCycles s.ppu.frameLength s).ppu.framesOut = s.ppu.framesOut + 1 := by
  have hlen := s.ppu.frameLength_pos
  have hlast := position_lastDot h0
  obtain ⟨-, -, hdot, -⟩ := position_of_frameStart h0 (k := s.ppu.frameLength - 1) (by omega)
  have hother : ¬((executeCycles (s.ppu.frameLength - 1) s).ppu.scanline = 260 ∧
      (executeCycles (s.ppu.frameLength - 1) s).ppu.dot = 340) := by
    rw [lastVisibleDot_iff hdot, hlast]
    decide
  have hcount := executeDot_framesOut (executeCycles (s.ppu.frameLength - 1) s)
  rwa [← executeCycles_succ, Nat.sub_add_cancel (by omega), if_neg hother, Nat.add_zero,
    framesOut_within h0 (s.ppu.frameLength - 1) (by omega), hlast, if_pos (by decide)] at hcount

/-! The picture after a dot -/

/-- The scanline buffer: the pixel in its place, after the clearing of dot 0 (R357, R361). -/
theorem executeDot_scanlineBuffer {s : State} (hlength : s.ppu.scanlineBuffer.length = 256) (x : Nat) :
    let visible : Prop := 21 ≤ s.ppu.scanline ∧ s.ppu.scanline ≤ 260
    (executeDot s).ppu.scanlineBuffer[x]? =
      if visible ∧ s.ppu.dot < 256 ∧ x = s.ppu.dot then some (BitVec.ofNat 5 s.ppu.pixelNumber)
      else if visible ∧ s.ppu.dot = 0 ∧ x < 256 then some 0
      else s.ppu.scanlineBuffer[x]? := by
  intro visible
  have hvisible : s.ppu.visibleLine = true ↔ visible := Ppu.visibleLine_iff
  by_cases hdraw : s.ppu.visibleLine = true ∧ s.ppu.dot ≤ 255
  · obtain ⟨hv, hd⟩ := hdraw
    have hline := hvisible.1 hv
    have hcleared : (if s.ppu.dot = 0 then List.replicate 256 0 else s.ppu.scanlineBuffer).length = 256 := by
      split
      · exact List.length_replicate
      · exact hlength
    obtain ⟨hbuffer, -⟩ := executeDot_canvas_pixel hv hd
    rw [hbuffer, List.getElem?_set, hcleared]
    by_cases hx : s.ppu.dot = x
    · rw [if_pos hx, if_pos (by omega), if_pos ⟨hline, by omega, hx.symm⟩]
    rw [if_neg hx, if_neg (c := visible ∧ s.ppu.dot < 256 ∧ x = s.ppu.dot) (by omega)]
    by_cases h0 : s.ppu.dot = 0
    · rw [if_pos h0, List.getElem?_replicate]
      by_cases hx256 : x < 256
      · rw [if_pos hx256, if_pos ⟨hline, h0, hx256⟩]
      · rw [if_neg hx256, if_neg (by omega), List.getElem?_eq_none (by omega)]
    · rw [if_neg h0, if_neg (by omega)]
  · have hcanvas := (executeDot_canvas_noPixel hdraw).trans (flagActions_canvas s.ppu)
    obtain ⟨hbuffer, -⟩ := Canvas.mk.inj hcanvas
    rw [hvisible] at hdraw
    rw [hbuffer, if_neg (by rw [hvisible]; omega), if_neg (by omega), if_neg (by omega)]

/-- The sprite-0 flag (R354, R387). -/
theorem executeDot_sprite0Hit (s : State) :
    let visible : Prop := 21 ≤ s.ppu.scanline ∧ s.ppu.scanline ≤ 260
    (executeDot s).ppu.sprite0Hit = true ↔
      ¬(s.ppu.scanline = 20 ∧ s.ppu.dot = 0) ∧ (s.ppu.sprite0Hit = true ∨ (visible ∧ s.ppu.dot < 255 ∧
        s.ppu.bgNumber % 4 ≠ 0 ∧ ∃ e, s.ppu.winner = some e ∧ e.isSpriteZero = true)) := by
  intro visible
  have hvisible : s.ppu.visibleLine = true ↔ visible := Ppu.visibleLine_iff
  by_cases hdraw : s.ppu.visibleLine = true ∧ s.ppu.dot ≤ 255
  · obtain ⟨hv, hd⟩ := hdraw
    have hline := hvisible.1 hv
    have h20 : ¬(s.ppu.scanline = 20 ∧ s.ppu.dot = 0) := by omega
    simp only [(executeDot_canvas_pixel hv hd).2, h20, hline, not_false_iff, true_and]
  · have hcanvas := (executeDot_canvas_noPixel hdraw).trans (flagActions_canvas s.ppu)
    obtain ⟨-, hhit⟩ := Canvas.mk.inj hcanvas
    rw [hvisible] at hdraw
    have hnot : ∀ P : Prop, ¬(visible ∧ s.ppu.dot < 255 ∧ P) := fun P k => hdraw ⟨k.1, by omega⟩
    rw [hhit]
    simp only [hnot, or_false]
    split
    case isTrue h => simp [h]
    case isFalse h => simp [h]

/-- The rows of the frame: dot 256 of a visible scanline gives its own (R390). -/
theorem executeDot_frame_row {s : State} (hlength : s.ppu.frame.length = 240) (r : Nat) :
    let visible : Prop := 21 ≤ s.ppu.scanline ∧ s.ppu.scanline ≤ 260
    (executeDot s).ppu.frame[r]? =
      if visible ∧ s.ppu.dot = 256 ∧ r + 21 = s.ppu.scanline then
        some (s.ppu.scanlineBuffer.map (fun x => Config.paletteRgb
          (BitVec.ofNat 6 ((ppuRead s.cart s.ppu (BitVec.ofNat 14 (0x3F00 + x.toNat))).toNat % 64))))
      else s.ppu.frame[r]? := by
  intro visible
  have hvisible : s.ppu.visibleLine = true ↔ visible := Ppu.visibleLine_iff
  have hout := executeDot_output s
  by_cases h256 : s.ppu.visibleLine = true ∧ s.ppu.dot = 256
  · obtain ⟨hv, hd⟩ := h256
    have hline := hvisible.1 hv
    rw [if_pos ⟨hv, hd⟩, funext (colourOf_eq s.cart s.ppu)] at hout
    obtain ⟨hframe, -, -⟩ := Output.mk.inj hout
    rw [hframe, List.getElem?_set]
    by_cases hr : r + 21 = s.ppu.scanline
    · rw [if_pos (by omega), if_pos (by omega), if_pos ⟨hline, hd, hr⟩]
    · rw [if_neg (by omega), if_neg (fun k => hr k.2.2)]
  · rw [if_neg h256] at hout
    have hframe : (executeDot s).ppu.frame = s.ppu.frame := by
      split at hout <;> exact (Output.mk.inj hout).1
    rw [hvisible] at h256
    rw [hframe, if_neg (by omega)]

/-- Settles O29: the pixel, the flag, the row and the delivery, each at its dot. -/
theorem frameDelivered : Obligations.FrameDelivered := by
  refine ⟨fun s hbuffer hframe => ?picture, fun t => ⟨executeDot_framesOut t, fun hy hd => ?delivery⟩,
    fun s hy hd n hn => ?once⟩
  case picture =>
    exact ⟨executeDot_scanlineBuffer hbuffer, executeDot_sprite0Hit s, executeDot_frame_row hframe⟩
  case delivery =>
    have h := executeDot_output t
    rw [if_neg (by omega), if_pos ⟨hy, hd⟩] at h
    exact (congrArg Output.lastFrame h :)
  case once =>
    have h0 : s.ppu.position = 0 := by rw [Ppu.position, hy, hd]
    rw [hn]
    exact framesOut_frame h0

end Sys2Proof.Machine

/-! Proofs of the statements about interrupt requests and services (spec/60_exceptions.md), and about the invariant under the
outside events. -/

namespace Sys2Proof.Machine

/-! The invariant under outside events -/

/-- The PPU after `Init` or `Reset`: the values of power-on, over memories and buffers that keep their sizes (R53, R61). -/
theorem Ppu.Inv.reinit {p : Ppu} (h : p.Inv) : p.reinit.Inv :=
  { powerOn_inv with
    ntA_good := h.ntA_good, ntB_good := h.ntB_good, palette_wf := h.palette_wf, palette_keys := h.palette_keys
    oam_good := h.oam_good, secOam_good := h.secOam_good, scanlineBuffer_length := h.scanlineBuffer_length
    frame_shape := h.frame_shape, lastFrame_shape := h.lastFrame_shape }

/-- A map at identity modulo the bank count (R55). -/
theorem identityMap_getElem? (n : Nat) {size i : Nat} (hi : i < size) :
    ((List.range size).map (fun k => k % n))[i]? = some (i % n) := by
  rw [List.getElem?_map, List.getElem?_range hi, Option.map_some]

/-- A map at identity modulo the bank count names valid banks (R55, R444). -/
theorem identityMap_valid {n : Nat} (hn : 0 < n) (size : Nat) :
    ((List.range size).map (fun k => k % n)).all (fun b => decide (b < n)) = true := by
  rw [List.all_eq_true]
  intro b hb
  obtain ⟨k, -, rfl⟩ := List.mem_map.mp hb
  exact decide_eq_true (Nat.mod_lt k hn)

theorem Cartridge.Inv.initMaps {c : Cartridge} (h : c.Inv) : c.initMaps.Inv :=
  { h with
    prgMap_length := List.length_map _
    chrMap_length := List.length_map _
    prgMap_valid := identityMap_valid h.prgBanks_pos 32
    chrMap_valid := identityMap_valid h.chrBanks_pos 8 }

/-- `Init` sets bit 5 of P (R25, R440). -/
theorem initMachine_bitFive (s : State) : flagR (initMachine s).p = true := by
  have hp : (initMachine s).p = 0x34 := by rw [initMachine_eq]
  rw [hp]
  decide

theorem initMachine_inv {s : State} (h : s.Inv) : (initMachine s).Inv := by
  have hbit := initMachine_bitFive s
  rw [initMachine_eq] at hbit ⊢
  exact { bit5 := hbit, ram_good := h.ram_good, ppu := h.ppu.reinit, cart := h.cart.initMaps }

/-- Every outside event keeps the invariant (R401 to R403, R440, R442). -/
theorem State.Inv.apply {s : State} (h : s.Inv) : ∀ e : Event, (s.apply e).Inv
  | .init => initMachine_inv h
  | .reset => (h.setPpu h.ppu.reinit).setPending _
  | .nmi => raiseNmi_inv h
  | .irq => h.setPending _

/-- Settles O11: a request changes the latch alone, `Init` and `Reset` begin the PPU again, and the maps of `Init` do not depend
on what they were. -/
theorem eventsKeepInv : Obligations.EventsKeepInv := by
  refine ⟨fun s e h => h.apply e, fun s _ _ => ?_⟩
  have hcart : (s.apply .init).cart = s.cart.initMaps := congrArg State.cart (initMachine_eq s)
  rw [hcart]
  exact ⟨initMachine_bitFive s, fun _ hi => identityMap_getElem? _ hi, fun _ hi => identityMap_getElem? _ hi⟩

/-! Requests -/

/-- Settles O34: the table of R404, whose columns are `Pending.requestReset`, `Pending.requestNmi` and `Pending.requestIrq`. -/
theorem requestPriority : Obligations.RequestPriority := by
  intro s
  have hnmi : (s.apply .nmi).pending = s.pending.requestNmi := rfl
  have hirq : (s.apply .irq).pending = s.pending.requestIrq := rfl
  rw [hnmi, hirq]
  refine ⟨rfl, ?_, ?_, ?_, ?_⟩ <;> (intro h; rw [h]; exact ⟨rfl, rfl⟩)

/-! Services -/

/-- A service of 7 cycles is followed by 21 dots of the PPU (R100, R410). -/
theorem step_of_service_cycles {s t : State} (h : servicePending s = (true, t)) (hcycles : t.opCycles = 7) :
    step s = .next (executeCycles 21 t) := by
  rw [step_of_service h, catchUp, hcycles]
  rfl

/-- Everything a RESET service does (R411). -/
theorem serviceReset_eq (s : State) :
    serviceReset s = { s with
      a := 0, x := 0, y := 0, sp := 0xFF, p := 0x22, pc := vectorWord 0xFFFC s, opCycles := 7, pending := .none } := by
  obtain ⟨h0, h1⟩ := resetVector_plain
  have hread (t : State) : busRead16 0xFFFC 0xFFFD t = (vectorWord 0xFFFC t, t) := busRead16_vector h0 h1 t
  rw [serviceReset, hread]
  dsimp only
  rw [vectorWord_congr h0 h1 (s := s) rfl rfl]
  rfl

/-- Settles O35: `serviceReset_eq` is the state after the service. -/
theorem resetService : Obligations.ResetService := fun s h =>
  ⟨_, step_of_service_cycles (servicePending_reset h) (by rw [serviceReset_eq]), serviceReset_eq s⟩

theorem SameFlagsBut.trans {ks ls : List Nat} {p q r : Byte} (h : SameFlagsBut ks p q) (h' : SameFlagsBut ls q r) :
    SameFlagsBut (ls ++ ks) p r := fun k hk => by
  obtain ⟨hl, hk⟩ := not_or.mp (mt List.mem_append.mpr hk)
  exact (h' k hl).trans (h k hk)

/-- Settles O36: `serviceNmi_eq` is the state after the service; its RAM and S are those of three pushes. -/
theorem nmiService : Obligations.NmiService := by
  intro s h
  have hservice := servicePending_nmi h
  rw [serviceNmi_eq] at hservice
  obtain ⟨hd, hflags⟩ := putBit_sets (k := 3) (by decide) s.p false
  exact ⟨_, step_of_service_cycles hservice rfl, pushesThree_of_ram rfl rfl rfl rfl rfl, rfl, hd, hflags, rfl, rfl, rfl, rfl,
    rfl⟩

/-- Settles O37: `serviceIrq_eq` is the state after the service; its RAM and S are those of three pushes. -/
theorem irqService : Obligations.IrqService := by
  intro s h hi
  have hservice := servicePending_irq h hi
  rw [serviceIrq_eq] at hservice
  obtain ⟨hd, hclear⟩ := putBit_sets (k := 3) (by decide) s.p false
  obtain ⟨hI, hset⟩ := putBit_sets (k := 2) (by decide) (putBit s.p 3 false) true
  exact ⟨_, step_of_service_cycles hservice rfl, pushesThree_of_ram rfl rfl rfl rfl rfl, rfl,
    (hset 3 (by decide)).trans hd, hI, hclear.trans hset, rfl, rfl, rfl, rfl, rfl⟩

end Sys2Proof.Machine
